-- ==== Sys2Proof/Word.lean ====
section
/-! DEFINITION. The word types of the block: a 32-bit register word, a frame byte, the level of the line. -/

namespace Sys2Proof

/-- A register of the window, and the value a host access moves (00_scope.md R5, 20_memory.md R46). -/
abbrev Word := BitVec 32

/-- One byte of a frame (10_state.md R38). -/
abbrev Byte := BitVec 8

/-- A level of the data line, or a sample of it: `true` is 1, `false` is 0 (40_line_commands.md R71). -/
abbrev Level := Bool

/-- A byte offset in the 128-byte register window (10_state.md R23). -/
abbrev Offset := BitVec 7

end Sys2Proof
end

