-- ==== Sys2Proof/Syntax.lean ====
section
/-! DEFINITION. Syntax: the commands, the registers the host names, the events of the block, and the host program notation. -/

namespace Sys2Proof

/-- The commands a host writes to CMD, one constructor per row of spec/opcode_table.json (30_encoding.md R61).
No command has an operand field (R64). -/
inductive Instr where
  /-- READ_FRAME, 40_line_commands.md R80. -/
  | readFrame
  /-- READ_BIT, 40_line_commands.md R78. -/
  | readBit
  /-- CHECK_SUM8, 41_checksum_commands.md R103. -/
  | checkSum8
  /-- CHECK_CRC16, 41_checksum_commands.md R104. -/
  | checkCrc16
deriving DecidableEq, Repr

/-- The registers of the window (10_state.md R23). -/
inductive Reg where
  | ctrl
  | cmd
  | status
  | timing0
  | timing1
  | bitres
  | hum
  | temp
  | frame (k : Fin 8)
  | calcReg
deriving DecidableEq, Repr

/-- How much a host access moves. Only `word` has a meaning (20_memory.md R49). -/
inductive AccessWidth where
  | byte
  | half
  | word
deriving DecidableEq, Repr

/-- Where in the window a host access goes, and how wide it is. -/
structure Access where
  width : AccessWidth
  off   : Offset
deriving DecidableEq, Repr

/-- The four kinds of event, totally ordered in time (20_memory.md R55). -/
inductive Event where
  /-- `HostRead(off)`, R47. -/
  | hostRead (a : Access)
  /-- `HostWrite(off, v)`, R48. -/
  | hostWrite (a : Access) (v : Word)
  /-- `Tick(s)`, one FSM step with line sample `s`, 40_line_commands.md R72. -/
  | tick (s : Level)
  /-- `Reset`, 70_reset_and_hazards.md R140. -/
  | reset
deriving DecidableEq, Repr, Inhabited

/-- One run of a `<wave>` (30_encoding.md R67). -/
inductive Run where
  /-- `L<n>`: n ticks with sample 0. -/
  | low (n : Nat)
  /-- `H<n>`: n ticks with sample 1. -/
  | high (n : Nat)
  /-- `X<n>`: ticks whose sample no rule reads; the run names the samples, which may be any. -/
  | any (samples : List Level)
  /-- `BIT0` or `BIT1`. -/
  | bit (b : Bool)
  /-- `BYTE(b)`: the eight bits of `b`, most significant first. -/
  | byte (b : Byte)
deriving DecidableEq, Repr

/-- What a `WR` or `RD` line names: a register by its name, or `@0xNN`, a raw offset (30_encoding.md R66). -/
inductive Place where
  | reg (r : Reg)
  | raw (off : Offset)
deriving DecidableEq, Repr

/-- One line of a host program (30_encoding.md R66), the pseudo-instructions of R68 among them. -/
inductive HostLine where
  /-- `WR <reg>, <value>`. -/
  | wr (p : Place) (v : Word)
  /-- `RD <reg>`. -/
  | rd (p : Place)
  /-- `CMD <mnemonic>`. -/
  | cmd (i : Instr)
  /-- `CMDW <value>`. -/
  | cmdw (v : Word)
  /-- `TICKS <wave>`. -/
  | ticks (wave : List Run)
  /-- `RESET`. -/
  | reset
  /-- `INIT <signed>`. -/
  | init (signed : Bool)
  /-- `DEINIT`. -/
  | deinit
  /-- `LOADFRAME b0 .. bn`. -/
  | loadFrame (bytes : List Byte)
deriving DecidableEq, Repr

end Sys2Proof
end

