-- ==== Sys2Proof/Config.lean ====
section
/-! DEFINITION. Config: what the spec leaves to the platform (uninterpreted), and the fixed numbers of the block. -/

namespace Sys2Proof.Config

/-- `BASE`, the platform address of the register window: OPEN (00_scope.md R5, 20_memory.md R54). No body: log 8. -/
opaque BASE : Nat

/-- The events the host, the platform and the sensor bring once the listed ones are used up: which comes next, and the
sample of each tick, is free (20_memory.md R55; 93 I8, I11). When a tick comes is its choice, so it stands for
`TICK_SOURCE` too (00_scope.md R5; 93 I13; log 9). No body: log 1. -/
opaque environment : Nat → Event

/-- Bytes in the register window (10_state.md R23). -/
def windowBytes : Nat := 128

/-- START_LOW_MS counts units of 1000 ticks (10_state.md R35, 40_line_commands.md R81). -/
def ticksPerMs : Nat := 1000

/-- Data bits in a single-wire frame (00_scope.md R5). -/
def frameBits : Nat := 40

/-- The reflected CRC polynomial (00_scope.md R5, 41_checksum_commands.md R101). -/
def crcPoly : BitVec 16 := 0xA001#16

/-- The CRC's initial value (00_scope.md R5, 41_checksum_commands.md R101). -/
def crcInit : BitVec 16 := 0xFFFF#16

end Sys2Proof.Config
end

