-- ==== Sys2Proof/Decode.lean ====
section
/-! DEFINITION. Decoding a command word, total on every 32-bit word and rejecting by name, and encoding a command. -/

namespace Sys2Proof

/-- Why a word is no command (30_encoding.md R62, R63). The block still accepts such a word and ends it with an error. -/
inductive DecodeError where
  /-- A bit of [31:4] is set (R62). -/
  | reservedBits
  /-- OP is 0x0 or 0x5 to 0xF (R63). -/
  | reservedOp (op : BitVec 4)
deriving DecidableEq, Repr

/-- The OP field, bits [3:0] of a command word (30_encoding.md R60). -/
def opOf (w : Word) : BitVec 4 := w.extractLsb' 0 4

/-- The ZERO field, bits [31:4] of a command word (30_encoding.md R60). -/
def zeroOf (w : Word) : BitVec 28 := w.extractLsb' 4 28

/-- Whether a bit of ZERO is set: the value latched into `RSVD` (20_memory.md R48). -/
def reservedBits (w : Word) : Bool := decide (zeroOf w ≠ 0#28)

/-- The opcode map (30_encoding.md R61): which command an OP names, none for a reserved OP. -/
def commandOf (op : BitVec 4) : Option Instr :=
  if op = 0x1#4 then some .readFrame
  else if op = 0x2#4 then some .readBit
  else if op = 0x3#4 then some .checkSum8
  else if op = 0x4#4 then some .checkCrc16
  else none

/-- The decoder: it needs only OP and the test `v[31:4] = 0` (30_encoding.md R61). -/
def decode (w : Word) : Except DecodeError Instr :=
  if reservedBits w then .error .reservedBits
  else
    match commandOf (opOf w) with
    | some i => .ok i
    | none   => .error (.reservedOp (opOf w))

/-- The opcode of a command (30_encoding.md R61). -/
def opcode : Instr → BitVec 4
  | .readFrame  => 0x1#4
  | .readBit    => 0x2#4
  | .checkSum8  => 0x3#4
  | .checkCrc16 => 0x4#4

/-- The encoder: ZERO in [31:4], OP in [3:0] (30_encoding.md R60). -/
def encode (i : Instr) : Word := 0#28 ++ opcode i

/-- The command whose bits are `w`, numbered as spec/opcode_table.json numbers them; every bit above `nbits` is 0, and
no command is longer than 32 bits (30_encoding.md R65). -/
def decodeTableWord (nbits w : Nat) : Option Instr :=
  if nbits ≤ 32 then
    match decode (BitVec.ofNat 32 (w % 2 ^ nbits)) with
    | .ok i    => some i
    | .error _ => none
  else none

end Sys2Proof
end

