-- ==== Sys2Proof/WellFormed.lean ====
section
/-! DEFINITION. Well-formedness: which accesses, command words and host lines the spec gives a meaning of their own. -/

namespace Sys2Proof

/-- A command has no operand, so there is nothing in it to be ill formed (30_encoding.md R64). -/
def Instr.wf : Instr → Bool
  | .readFrame | .readBit | .checkSum8 | .checkCrc16 => true

/-- A whole aligned 32-bit access, the only defined one (20_memory.md R46, R49). -/
def Access.wf (a : Access) : Bool :=
  decide (a.width = .word) && decide (a.off.toNat % 4 = 0)

/-- A word of the opcode map: ZERO is 0 and OP is not reserved (30_encoding.md R60, R61). -/
def commandWordWf (w : Word) : Bool :=
  !reservedBits w && (commandOf (opOf w)).isSome

/-- An event the model gives a meaning: everything but an access R49 leaves undefined. -/
def Event.wf : Event → Bool
  | .hostRead a    => a.wf
  | .hostWrite a _ => a.wf
  | .tick _        => true
  | .reset         => true

/-- What a line names is a whole register: a raw offset must be a multiple of 4 (20_memory.md R46). -/
def Place.wf : Place → Bool
  | .reg _   => true
  | .raw off => decide (off.toNat % 4 = 0)

/-- A host line (30_encoding.md R66, R68): its place is a whole register, and LOADFRAME names FRAME0 to at most FRAME7. -/
def HostLine.wf : HostLine → Bool
  | .wr p _         => p.wf
  | .rd p           => p.wf
  | .cmd _          => true
  | .cmdw _         => true
  | .ticks _        => true
  | .reset          => true
  | .init _         => true
  | .deinit         => true
  | .loadFrame bs   => decide (0 < bs.length) && decide (bs.length ≤ 8)

end Sys2Proof
end

