-- ==== Sys2Proof/Machine/State.lean ====
section
/-! DEFINITION. State: everything 10_state.md gives the block, as plain data, with the reasons a step can stop and the state after reset. -/

namespace Sys2Proof.Machine

/-- The five timed waits (40_line_commands.md R75). -/
inductive Phase where
  | waitRelease
  | respLow
  | respHigh
  | bitLow
  | bitHigh
deriving DecidableEq, Repr

/-- The FSM state register `STATE` (10_state.md R22). The reserved codes 8 to 15 are never entered and are no values here (log 5). -/
inductive FsmState where
  /-- 0: no command. -/
  | idle
  /-- 1: a command has been written and runs at the next tick. -/
  | accept
  /-- 2: READ_FRAME is driving the line low. -/
  | start
  /-- 3 to 7: a timed wait. -/
  | wait (w : Phase)
deriving DecidableEq, Repr

/-- The error codes of STATUS.ERR (60_exceptions.md R122). The reserved codes 6 and 7 are never produced and are no values here (log 5). -/
inductive ErrCode where
  | ok
  | invalidArg
  | notInit
  | invalidResponse
  | timeout
  | invalidChecksum
deriving DecidableEq, Repr

/-- The fields of BITRES (10_state.md R37). -/
structure BitRes where
  value   : Bool
  lowcnt  : Byte
  highcnt : Byte
deriving DecidableEq, Repr

/-- The fields of TEMP: sign and magnitude (10_state.md R39). -/
structure Temp where
  mag : BitVec 16
  neg : Bool
deriving DecidableEq, Repr

/-- The whole machine. The last three fields are the model's own. -/
structure State where
  /-- CTRL.EN, R25. -/
  en : Bool
  /-- CTRL.SIGNED, R25. -/
  signed : Bool
  /-- STATUS.BUSY, R30. -/
  busy : Bool
  /-- STATUS.DONE, R31. -/
  done : Bool
  /-- STATUS.REJ, R32. -/
  rej : Bool
  /-- STATUS.ERR, R33. -/
  err : ErrCode
  /-- STATUS.STAGE, R34: the phase that timed out, none for 0. -/
  stage : Option Phase
  /-- STATUS.BITCNT, R34. -/
  bitcnt : BitVec 6
  /-- `STATE`, R21, R22. -/
  fsm : FsmState
  /-- TIMING0.T_BIT_LOW_MAX, R35. -/
  tBitLowMax : BitVec 8
  /-- TIMING0.T_BIT_HIGH_MAX, R35. -/
  tBitHighMax : BitVec 8
  /-- TIMING0.T_ONE, R35. -/
  tOne : BitVec 8
  /-- TIMING0.START_LOW_MS, R35. -/
  startLowMs : BitVec 8
  /-- TIMING1.T_RELEASE_MAX, R36. -/
  tReleaseMax : BitVec 8
  /-- TIMING1.T_RESP_LOW_MAX, R36. -/
  tRespLowMax : BitVec 8
  /-- TIMING1.T_RESP_HIGH_MAX, R36. -/
  tRespHighMax : BitVec 8
  /-- BITRES, R37. -/
  bitres : BitRes
  /-- HUM.HUM_X10, R39. -/
  hum : BitVec 16
  /-- TEMP, R39. -/
  temp : Temp
  /-- FRAME0 to FRAME7, R38. -/
  frame : Vector Byte 8
  /-- CALC.VALUE, R39. -/
  calcValue : BitVec 16
  /-- `SHIFT`, R41. -/
  shift : BitVec 40
  /-- `OP`, R42. -/
  op : BitVec 4
  /-- `RSVD`, R42. -/
  rsvd : Bool
  /-- `pcnt`, R42. -/
  pcnt : BitVec 9
  /-- `scnt`, R42. -/
  scnt : BitVec 18
  /-- `lowcnt`, R42. -/
  lowcnt : BitVec 8
  /-- `drive_low`, the pad output, R40. -/
  driveLow : Bool
  /-- `line`, the sample of the current tick (00_scope.md R7, 10_state.md R40 `line_in`). -/
  line : Level
  /-- The model's own: the events that come next, oldest first (log 1). -/
  inputs : List Event
  /-- The model's own: how many events the free environment has brought (log 1). -/
  envCount : Nat
  /-- The model's own: the values the host's reads have returned, newest first (log 4). -/
  reads : List Word
deriving DecidableEq, Repr

/-- Why the model stops in a state that no run of the block reaches. -/
inductive Fault where
  /-- A BIT_HIGH phase ended while the command being run is not a line command. 40_line_commands.md R78 and R85 give
  `BitDone` for OP 0x1 and 0x2 only. Raised by `noBitDone`; safe (log 6). -/
  | bitDoneWithoutLineCommand
deriving DecidableEq, Repr

/-- Why the model gives no meaning. -/
inductive Refusal where
  /-- An instruction that has no meaning yet; no arm of `exec` answers it. Safe. -/
  | notModelled (mnemonic : String)
  /-- A host access narrower than 32 bits or misaligned: "A model refuses such an access" (20_memory.md R49).
  Raised by `hostReadEvent` and `hostWriteEvent`; safe (log 2). -/
  | accessNotDefined (a : Access)
deriving DecidableEq, Repr

/-- The state right after reset (10_state.md R45; `line` and the model's own fields: log 1, 3, 4). -/
def State.reset : State where
  en := false
  signed := false
  busy := false
  done := false
  rej := false
  err := .ok
  stage := none
  bitcnt := 0#6
  fsm := .idle
  tBitLowMax := 55#8
  tBitHighMax := 75#8
  tOne := 30#8
  startLowMs := 10#8
  tReleaseMax := 200#8
  tRespLowMax := 85#8
  tRespHighMax := 85#8
  bitres := { value := false, lowcnt := 0#8, highcnt := 0#8 }
  hum := 0#16
  temp := { mag := 0#16, neg := false }
  frame := Vector.replicate 8 0#8
  calcValue := 0#16
  shift := 0#40
  op := 0#4
  rsvd := false
  pcnt := 0#9
  scnt := 0#18
  lowcnt := 0#8
  driveLow := false
  line := true
  inputs := []
  envCount := 0
  reads := []

end Sys2Proof.Machine
end

