-- ==== Sys2Proof/Machine/Flags.lean ====
section
/-! DEFINITION. The STATUS register's codes and flags: how each field is encoded and how the word is put together. -/

namespace Sys2Proof.Machine

/-- The code of STATE (10_state.md R22). -/
def fsmCode : FsmState → BitVec 4
  | .idle              => 0#4
  | .accept            => 1#4
  | .start             => 2#4
  | .wait .waitRelease => 3#4
  | .wait .respLow     => 4#4
  | .wait .respHigh    => 5#4
  | .wait .bitLow      => 6#4
  | .wait .bitHigh     => 7#4

/-- The code of ERR (60_exceptions.md R122). -/
def errCode : ErrCode → BitVec 3
  | .ok              => 0#3
  | .invalidArg      => 1#3
  | .notInit         => 2#3
  | .invalidResponse => 3#3
  | .timeout         => 4#3
  | .invalidChecksum => 5#3

/-- `STAGE(W)`, the code of the phase that timed out; 0 where none did (40_line_commands.md R75, 10_state.md R34). -/
def stageCode : Option Phase → BitVec 3
  | none              => 0#3
  | some .waitRelease => 1#3
  | some .respLow     => 2#3
  | some .respHigh    => 3#3
  | some .bitLow      => 4#3
  | some .bitHigh     => 5#3

/-- The STATUS word a host reads (10_state.md R29, 20_memory.md R47 offset 0x08). -/
def statusWord (s : State) : Word :=
  0#4 ++ fsmCode s.fsm ++ 0#2 ++ s.bitcnt ++ 0#5 ++ stageCode s.stage ++ 0#1 ++ errCode s.err ++ 0#1
    ++ BitVec.ofBool s.rej ++ BitVec.ofBool s.done ++ BitVec.ofBool s.busy

end Sys2Proof.Machine
end

