-- ==== Sys2Proof/Machine/Operands.lean ====
section
/-! DEFINITION. Operands: the registers, thresholds, levels and frame bytes a command or a host access takes its operands from. -/

namespace Sys2Proof.Machine

/-- The byte offset of a register (10_state.md R23). -/
def regOffset : Reg → Offset
  | .ctrl    => 0x00#7
  | .cmd     => 0x04#7
  | .status  => 0x08#7
  | .timing0 => 0x0C#7
  | .timing1 => 0x10#7
  | .bitres  => 0x14#7
  | .hum     => 0x18#7
  | .temp    => 0x1C#7
  | .frame k => BitVec.ofNat 7 (0x20 + 4 * k.val)
  | .calcReg => 0x40#7

/-- The register at an offset; none for an unmapped or misaligned one (10_state.md R23, 20_memory.md R50). -/
def regAt (off : Offset) : Option Reg :=
  match off.toNat with
  | 0x00 => some .ctrl
  | 0x04 => some .cmd
  | 0x08 => some .status
  | 0x0C => some .timing0
  | 0x10 => some .timing1
  | 0x14 => some .bitres
  | 0x18 => some .hum
  | 0x1C => some .temp
  | 0x20 => some (.frame 0)
  | 0x24 => some (.frame 1)
  | 0x28 => some (.frame 2)
  | 0x2C => some (.frame 3)
  | 0x30 => some (.frame 4)
  | 0x34 => some (.frame 5)
  | 0x38 => some (.frame 6)
  | 0x3C => some (.frame 7)
  | 0x40 => some .calcReg
  | _    => none

/-- `LEVEL(W)` (40_line_commands.md R75). -/
def level : Phase → Level
  | .waitRelease => true
  | .respLow     => false
  | .respHigh    => true
  | .bitLow      => false
  | .bitHigh     => true

/-- `LIMIT(W)`, read at the tick that compares it (40_line_commands.md R75). -/
def limit (w : Phase) (s : State) : BitVec 8 :=
  match w with
  | .waitRelease => s.tReleaseMax
  | .respLow     => s.tRespLowMax
  | .respHigh    => s.tRespHighMax
  | .bitLow      => s.tBitLowMax
  | .bitHigh     => s.tBitHighMax

/-- `N = START_LOW_MS * 1000`, the length of the start pulse in ticks (40_line_commands.md R81). -/
def startTicks (s : State) : Nat := s.startLowMs.toNat * Config.ticksPerMs

/-- The bit value of a high phase of duration `d`: `d > T_ONE` (40_line_commands.md R77). -/
def bitValue (d : BitVec 9) (s : State) : Bool := decide (s.tOne.toNat < d.toNat)

/-- `b[k] <- SHIFT[39 - 8k : 32 - 8k]`, byte `k` of a received frame, k from 0 to 4 (40_line_commands.md R86). -/
def shiftByte (sh : BitVec 40) (k : Nat) : Byte := sh.extractLsb' (32 - 8 * k) 8

/-- Which frame bytes hold humidity and temperature (42_value_fields.md R110). -/
inductive Layout where
  | singleWire
  | bus
deriving DecidableEq, Repr

/-- The four value bytes `h_hi, h_lo, t_hi, t_lo` of a layout (42_value_fields.md R110). -/
structure ValueBytes where
  hHi : Byte
  hLo : Byte
  tHi : Byte
  tLo : Byte
deriving DecidableEq, Repr

/-- The bytes of FRAME a layout names (42_value_fields.md R110). -/
def valueBytes (l : Layout) (f : Vector Byte 8) : ValueBytes :=
  match l with
  | .singleWire => { hHi := f[0], hLo := f[1], tHi := f[2], tLo := f[3] }
  | .bus        => { hHi := f[2], hLo := f[3], tHi := f[4], tLo := f[5] }

end Sys2Proof.Machine
end

