-- ==== Sys2Proof/Machine/Ops.lean ====
section
/-! DEFINITION. The shared operations: ending a command, accepting one, the timed wait, and the tick rule every command runs through. -/

namespace Sys2Proof.Machine

/-- What one event of the machine answers. -/
abbrev Result := Host.Outcome State Fault Refusal

/-! ### Ending a command: the counterpart of taking an exception (60_exceptions.md R120, R126, R127) -/

/-- `Finish(err)` (60_exceptions.md R126). -/
def finish (e : ErrCode) (s : State) : State :=
  { s with err := e, fsm := .idle, busy := false, done := true, driveLow := false }

/-- `Timeout(STAGE(W))` (60_exceptions.md R127). -/
def timeout (w : Phase) (s : State) : State :=
  finish .timeout { s with stage := some w }

/-! ### Accepting a command: it also clears what the last one left, as no return from an error does (R129) -/

/-- Acceptance of a command word: the CMD write of 20_memory.md R48 while BUSY = 0. -/
def acceptWord (v : Word) (s : State) : State :=
  { s with
    op := opOf v, rsvd := reservedBits v
    busy := true, done := false, rej := false, err := .ok, stage := none, bitcnt := 0#6
    fsm := .accept }

/-- A write dropped because BUSY = 1 (20_memory.md R48, 10_state.md R32). -/
def dropWrite (s : State) : State := { s with rej := true }

/-- `Reset`: every piece of the block's state to 10_state.md R45 (70_reset_and_hazards.md R140). The line, the coming
events and the host's record of its reads are not the block's and stay (log 14). -/
def resetBlock (s : State) : State :=
  { State.reset with line := s.line, inputs := s.inputs, envCount := s.envCount, reads := s.reads }

/-! ### The pad -/

/-- The level of the open-drain line: 0 while the block or the sensor pulls it low, else 1 by the pull-up
(10_state.md R40). The samples the FSM reads come with the ticks and are not tied to it (log 15). -/
def padLevel (s : State) (sensorPullsLow : Bool) : Level := !(s.driveLow || sensorPullsLow)

/-! ### The timed wait (40_line_commands.md R74 to R77) -/

/-- `Phase(W, s)` at the phase's level: raise the count, then compare it with the limit (40_line_commands.md R74). -/
def dwell (w : Phase) (s : State) : State :=
  let s := { s with pcnt := s.pcnt + 1#9 }
  if (limit w s).toNat < s.pcnt.toNat then timeout w s else s

/-- `STATE <- W; Phase(W, s)` for a phase entered by a sample at its level (40_line_commands.md R77; log 7). -/
def enterPhase (w : Phase) (s : State) : State := dwell w { s with fsm := .wait w }

/-- The end of a phase: `d <- pcnt; pcnt <- 0; ExitPhase(W, d, s)` (40_line_commands.md R74, R77). `bitDone d` is the
command's own `BitDone(d > T_ONE, d, s)`. -/
def exitPhase (w : Phase) (bitDone : BitVec 9 → State → Result) (s : State) : Result :=
  let d := s.pcnt
  let s := { s with pcnt := 0#9 }
  match w with
  | .waitRelease => .next (enterPhase .respLow s)
  | .respLow     => .next (enterPhase .respHigh s)
  | .respHigh    => .next (enterPhase .bitLow s)
  | .bitLow      => .next (enterPhase .bitHigh { s with lowcnt := d.setWidth 8 })
  | .bitHigh     => bitDone d s

/-- `Phase(W, s)` with the tick's sample (40_line_commands.md R74). -/
def phaseTick (w : Phase) (bitDone : BitVec 9 → State → Result) (s : State) : Result :=
  if s.line ≠ level w then exitPhase w bitDone s else .next (dwell w s)

/-- `StartTick()` (40_line_commands.md R81). -/
def startTick (s : State) : State :=
  let s := { s with scnt := s.scnt + 1#18 }
  if s.scnt.toNat = startTicks s then
    { s with driveLow := false, pcnt := 0#9, fsm := .wait .waitRelease }
  else s

/-! ### The tick rule (40_line_commands.md R72, R73) -/

/-- The checks of `Accept(s)` before a command named by OP starts: `isLine` says that it is a line command
(40_line_commands.md R73, 60_exceptions.md R125). -/
def acceptCommand (isLine : Bool) (start : State → Result) (s : State) : Result :=
  if isLine && !s.en then .next (finish .notInit s)
  else if s.rsvd then .next (finish .invalidArg s)
  else start s

/-- `Tick(s)` by STATE (40_line_commands.md R72). `accept` is the command's ACCEPT step, `bitDone` its end of a bit. -/
def fsmTick (accept : State → Result) (bitDone : BitVec 9 → State → Result) (s : State) : Result :=
  match s.fsm with
  | .idle   => .next s
  | .accept => accept s
  | .start  => .next (startTick s)
  | .wait w => phaseTick w bitDone s

/-- `BitDone` of a command that decodes no bits: the spec gives none, and no run reaches it (log 6). -/
def noBitDone (_ : BitVec 9) (_ : State) : Result := .fault .bitDoneWithoutLineCommand

/-- A tick of a command whose OP is reserved: `Finish(INVALID_ARG)` at ACCEPT (30_encoding.md R63, 40_line_commands.md R73). -/
def reservedOpTick (s : State) : Result :=
  fsmTick (fun s => .next (finish .invalidArg s)) noBitDone s

end Sys2Proof.Machine
end

