-- ==== Sys2Proof/Machine/Values.lean ====
section
/-! DEFINITION. Value fields: the `LatchFields` step of the successful commands (42_value_fields.md). -/

namespace Sys2Proof.Machine

/-- Humidity: `h_hi ++ h_lo`, 16-bit big-endian, no range check (42_value_fields.md R111). -/
def humidityOf (v : ValueBytes) : BitVec 16 := v.hHi ++ v.hLo

/-- Temperature as sign and magnitude, by CTRL.SIGNED (42_value_fields.md R112). -/
def temperatureOf (signed : Bool) (v : ValueBytes) : Temp :=
  let raw : BitVec 16 := v.tHi ++ v.tLo
  if signed then { mag := (raw.extractLsb' 0 15).setWidth 16, neg := raw.getLsbD 15 }
  else { mag := raw, neg := false }

/-- `LatchFields(layout, ...)`: HUM and TEMP together (42_value_fields.md R110, R113). -/
def latchFields (v : ValueBytes) (s : State) : State :=
  { s with hum := humidityOf v, temp := temperatureOf s.signed v }

end Sys2Proof.Machine
end

