-- ==== Sys2Proof/Machine/Checksum.lean ====
section
/-! DEFINITION. The checksum validators and the meanings of CHECK_SUM8 and CHECK_CRC16 (41_checksum_commands.md). -/

namespace Sys2Proof.Machine

/-- `Sum8`: the sum of four bytes modulo 256 (41_checksum_commands.md R100, R107). -/
def sum8 (b0 b1 b2 b3 : Byte) : Byte :=
  BitVec.ofNat 8 ((b0.toNat + b1.toNat + b2.toNat + b3.toNat) % 256)

/-- One step of the CRC loop on the low bit (41_checksum_commands.md R101). -/
def crcStep (crc : BitVec 16) : BitVec 16 :=
  if crc.getLsbD 0 then (crc >>> 1) ^^^ Config.crcPoly else crc >>> 1

/-- `repeat n times` of the CRC loop. -/
def crcSteps : Nat → BitVec 16 → BitVec 16
  | 0, crc     => crc
  | n + 1, crc => crcSteps n (crcStep crc)

/-- One byte of the CRC: it enters the low 8 bits, then eight steps (41_checksum_commands.md R101). -/
def crcByte (crc : BitVec 16) (m : Byte) : BitVec 16 := crcSteps 8 (crc ^^^ m.setWidth 16)

/-- `Crc16` over a list of bytes, first byte first, no final exclusive-or (41_checksum_commands.md R101; log 17). -/
def crc16 (m : List Byte) : BitVec 16 := m.foldl crcByte Config.crcInit

/-- The bytes the bus CRC covers, FRAME[0..5] (41_checksum_commands.md R102). -/
def crcInput (f : Vector Byte 8) : List Byte := [f[0], f[1], f[2], f[3], f[4], f[5]]

/-- `FRAME[7] ++ FRAME[6]`, the checksum a bus frame carries, low byte first (41_checksum_commands.md R102, R104). -/
def crcField (f : Vector Byte 8) : BitVec 16 := f[7] ++ f[6]

/-- `CheckSum8()` (41_checksum_commands.md R103). -/
def checkSum8 (s : State) : State :=
  let sum := sum8 s.frame[0] s.frame[1] s.frame[2] s.frame[3]
  let s := { s with calcValue := sum.setWidth 16 }
  if s.frame[4] ≠ sum then finish .invalidChecksum s
  else finish .ok (latchFields (valueBytes .singleWire s.frame) s)

/-- `CheckCrc16()` (41_checksum_commands.md R104). -/
def checkCrc16 (s : State) : State :=
  let crc := crc16 (crcInput s.frame)
  let s := { s with calcValue := crc }
  if crc ≠ crcField s.frame then finish .invalidChecksum s
  else finish .ok (latchFields (valueBytes .bus s.frame) s)

/-- A tick of CHECK_SUM8: the whole of it runs in the ACCEPT tick (41_checksum_commands.md R103, R105). -/
def execCheckSum8 (s : State) : Result :=
  fsmTick (acceptCommand false fun s => .next (checkSum8 s)) noBitDone s

/-- A tick of CHECK_CRC16: the whole of it runs in the ACCEPT tick (41_checksum_commands.md R104, R105). -/
def execCheckCrc16 (s : State) : Result :=
  fsmTick (acceptCommand false fun s => .next (checkCrc16 s)) noBitDone s

end Sys2Proof.Machine
end

