-- ==== Sys2Proof/Machine/Line.lean ====
section
/-! DEFINITION. The line commands: READ_BIT and READ_FRAME (40_line_commands.md). -/

namespace Sys2Proof.Machine

/-! ### READ_BIT (40_line_commands.md R78) -/

/-- `BitDone(b, h, s)` when OP = 0x2 (40_line_commands.md R78; the counts fit their 8-bit fields, log 10). -/
def readBitDone (h : BitVec 9) (s : State) : Result :=
  .next <| finish .ok
    { s with
      bitres := { value := bitValue h s, lowcnt := s.lowcnt, highcnt := h.setWidth 8 }
      bitcnt := 1#6 }

/-- `ReadBitAccept(s)`: the ACCEPT tick's sample is the first of the low phase (40_line_commands.md R78). -/
def readBitAccept (s : State) : Result :=
  phaseTick .bitLow readBitDone { s with pcnt := 0#9, lowcnt := 0#8, fsm := .wait .bitLow }

/-- A tick of READ_BIT (40_line_commands.md R72, R73, R78). -/
def execReadBit (s : State) : Result :=
  fsmTick (acceptCommand true readBitAccept) readBitDone s

/-! ### READ_FRAME (40_line_commands.md R80 to R88) -/

/-- `ReadFrameAccept(s)` (40_line_commands.md R80). -/
def readFrameAccept (s : State) : Result :=
  if s.line = false then .next (finish .invalidResponse s)
  else
    let s := { s with shift := 0#40, pcnt := 0#9, scnt := 0#18 }
    if s.startLowMs = 0#8 then .next { s with fsm := .wait .waitRelease }
    else .next { s with driveLow := true, fsm := .start }

/-- `SHIFT <- (SHIFT << 1) | b; BITCNT <- BITCNT + 1` (40_line_commands.md R85). -/
def shiftIn (b : Bool) (s : State) : State :=
  { s with shift := (s.shift <<< 1) ||| (BitVec.ofBool b).setWidth 40, bitcnt := s.bitcnt + 1#6 }

/-- The checksum of the frame in SHIFT (40_line_commands.md R86). -/
def shiftSum (sh : BitVec 40) : Byte :=
  sum8 (shiftByte sh 0) (shiftByte sh 1) (shiftByte sh 2) (shiftByte sh 3)

/-- FRAME[0..4] from SHIFT; FRAME[5..7] stay (40_line_commands.md R87). -/
def frameOfShift (sh : BitVec 40) (f : Vector Byte 8) : Vector Byte 8 :=
  #v[shiftByte sh 0, shiftByte sh 1, shiftByte sh 2, shiftByte sh 3, shiftByte sh 4, f[5], f[6], f[7]]

/-- `Commit(b, sum)` (40_line_commands.md R87). -/
def commitFrame (s : State) : State :=
  let s := { s with frame := frameOfShift s.shift s.frame, calcValue := (shiftSum s.shift).setWidth 16 }
  finish .ok (latchFields (valueBytes .singleWire s.frame) s)

/-- `FrameDone()` (40_line_commands.md R86). -/
def frameDone (s : State) : State :=
  if shiftByte s.shift 4 ≠ shiftSum s.shift then finish .invalidChecksum s else commitFrame s

/-- `BitDone(b, h, s)` when OP = 0x1 (40_line_commands.md R85). -/
def readFrameBitDone (h : BitVec 9) (s : State) : Result :=
  let s := shiftIn (bitValue h s) s
  if s.bitcnt.toNat = Config.frameBits then .next (frameDone s)
  else .next (enterPhase .bitLow s)

/-- A tick of READ_FRAME (40_line_commands.md R72, R73, R80 to R88). -/
def execReadFrame (s : State) : Result :=
  fsmTick (acceptCommand true readFrameAccept) readFrameBitDone s

end Sys2Proof.Machine
end

