-- ==== Sys2Proof/Machine/Dispatch.lean ====
section
/-! DEFINITION. One arm per constructor of Instr: a tick of that command. -/

namespace Sys2Proof.Machine

/-- One tick of the command `i`, the one being run (40_line_commands.md R70, R72; log 11). -/
def exec (i : Instr) (s : State) : Host.Outcome State Fault Refusal :=
  match i with
  | .readFrame => Sys2Proof.Machine.execReadFrame s
  | .readBit => Sys2Proof.Machine.execReadBit s
  | .checkSum8 => Sys2Proof.Machine.execCheckSum8 s
  | .checkCrc16 => Sys2Proof.Machine.execCheckCrc16 s

end Sys2Proof.Machine
end

