-- ==== Sys2Proof/Machine/Host.lean ====
section
/-! DEFINITION. The register interface: the host's reads and writes, and the window's place in the platform's address map (20_memory.md). -/

namespace Sys2Proof.Machine

/-- The value of a register as a host reads it; reserved bits read 0 (20_memory.md R47, 10_state.md R24). -/
def readReg (r : Reg) (s : State) : Word :=
  match r with
  | .ctrl    => 0#30 ++ BitVec.ofBool s.signed ++ BitVec.ofBool s.en
  | .cmd     => 0#32
  | .status  => statusWord s
  | .timing0 => s.startLowMs ++ s.tOne ++ s.tBitHighMax ++ s.tBitLowMax
  | .timing1 => 0#8 ++ s.tRespHighMax ++ s.tRespLowMax ++ s.tReleaseMax
  | .bitres  => 0#8 ++ s.bitres.highcnt ++ s.bitres.lowcnt ++ 0#7 ++ BitVec.ofBool s.bitres.value
  | .hum     => 0#16 ++ s.hum
  | .temp    => 0#15 ++ BitVec.ofBool s.temp.neg ++ s.temp.mag
  | .frame k => 0#24 ++ s.frame[k]
  | .calcReg => 0#16 ++ s.calcValue

/-- `HostRead(off)` (20_memory.md R47); an unmapped offset reads 0 (R50). -/
def hostRead (off : Offset) (s : State) : Word :=
  match regAt off with
  | some r => readReg r s
  | none   => 0#32

/-- A write of CTRL (10_state.md R25). -/
def writeCtrl (v : Word) (s : State) : State :=
  { s with en := v.getLsbD 0, signed := v.getLsbD 1 }

/-- A write of TIMING0 (10_state.md R35). -/
def writeTiming0 (v : Word) (s : State) : State :=
  { s with
    tBitLowMax := v.extractLsb' 0 8, tBitHighMax := v.extractLsb' 8 8
    tOne := v.extractLsb' 16 8, startLowMs := v.extractLsb' 24 8 }

/-- A write of TIMING1; bits 31:24 are reserved (10_state.md R36). -/
def writeTiming1 (v : Word) (s : State) : State :=
  { s with
    tReleaseMax := v.extractLsb' 0 8, tRespLowMax := v.extractLsb' 8 8, tRespHighMax := v.extractLsb' 16 8 }

/-- A write of FRAMEk; bits 31:8 are reserved (10_state.md R38). -/
def writeFrame (k : Fin 8) (v : Word) (s : State) : State :=
  { s with frame := s.frame.set k (v.extractLsb' 0 8) }

/-- A write that is taken only while BUSY = 0, else dropped with REJ (20_memory.md R48). -/
def unlessBusy (write : State → State) (s : State) : State :=
  if s.busy then dropWrite s else write s

/-- A write of a register; a read-only one ignores it (20_memory.md R48, 10_state.md R24). -/
def writeReg (r : Reg) (v : Word) (s : State) : State :=
  match r with
  | .ctrl    => unlessBusy (writeCtrl v) s
  | .cmd     => unlessBusy (acceptWord v) s
  | .status  => s
  | .timing0 => unlessBusy (writeTiming0 v) s
  | .timing1 => unlessBusy (writeTiming1 v) s
  | .bitres  => s
  | .hum     => s
  | .temp    => s
  | .frame k => unlessBusy (writeFrame k v) s
  | .calcReg => s

/-- `HostWrite(off, v)` (20_memory.md R48); an unmapped offset ignores it (R50). -/
def hostWrite (off : Offset) (v : Word) (s : State) : State :=
  match regAt off with
  | some r => writeReg r v s
  | none   => s

/-- The event HostRead: the value goes to the host, the block is unchanged (20_memory.md R47, R49; log 2, 4). -/
def hostReadEvent (a : Access) (s : State) : Result :=
  if a.wf then .next { s with reads := hostRead a.off s :: s.reads }
  else .refused (.accessNotDefined a)

/-- The event HostWrite (20_memory.md R48, R49; log 2). -/
def hostWriteEvent (a : Access) (v : Word) (s : State) : Result :=
  if a.wf then .next (hostWrite a.off v s)
  else .refused (.accessNotDefined a)

/-! ### The window in the platform's address map (20_memory.md R54; log 8) -/

/-- The offset of a platform address in a window at `base`; none outside the 128 bytes, which "do not belong to the
block" (20_memory.md R50, R54). -/
def windowOffset (base addr : Nat) : Option Offset :=
  if base ≤ addr ∧ addr < base + Config.windowBytes then some (BitVec.ofNat 7 (addr - base)) else none

/-- The block's event for a platform read at `addr`, none if it is another device's. -/
def platformRead (width : AccessWidth) (addr : Nat) : Option Event :=
  (windowOffset Config.BASE addr).map fun off => .hostRead { width := width, off := off }

/-- The block's event for a platform write at `addr`, none if it is another device's. -/
def platformWrite (width : AccessWidth) (addr : Nat) (v : Word) : Option Event :=
  (windowOffset Config.BASE addr).map fun off => .hostWrite { width := width, off := off } v

end Sys2Proof.Machine
end

