-- ==== Sys2Proof/Machine/Events.lean ====
section
/-! DEFINITION. Events: which comes next, what each does, and how a command word is set up to run (20_memory.md R55). -/

namespace Sys2Proof.Machine

/-- A tick of the command in the latch `OP`: its meaning, or the reserved-OP rule (40_line_commands.md R72, R73). -/
def runTick (s : State) : Result :=
  match commandOf s.op with
  | some i => exec i s
  | none   => reservedOpTick s

/-- `Tick(s)`: the sample becomes the line's level at this tick (00_scope.md R7, 40_line_commands.md R71, R72). -/
def tickEvent (sample : Level) (s : State) : Result := runTick { s with line := sample }

/-- What one event does (20_memory.md R55). -/
def applyEvent (e : Event) (s : State) : Result :=
  match e with
  | .hostRead a    => hostReadEvent a s
  | .hostWrite a v => hostWriteEvent a v s
  | .tick sample   => tickEvent sample s
  | .reset         => .next (resetBlock s)

/-- The event that comes next: the oldest listed one, else a free one (20_memory.md R55; log 1). -/
def nextEvent (s : State) : Event :=
  match s.inputs with
  | e :: _ => e
  | []     => Config.environment s.envCount

/-- The machine once the next event has been taken off (log 1). -/
def takeEvent (s : State) : State :=
  match s.inputs with
  | _ :: rest => { s with inputs := rest }
  | []        => { s with envCount := s.envCount + 1 }

/-- Acceptance of the command word whose bits are `w`, and the tick that runs it, with the line idle-high (log 13). -/
def placeCommand (nbits w : Nat) (s : State) : State :=
  let s := acceptWord (BitVec.ofNat 32 (w % 2 ^ nbits)) s
  { s with inputs := .tick true :: s.inputs }

end Sys2Proof.Machine
end

