-- ==== Sys2Proof/Machine/Step.lean ====
section
/-! DEFINITION. One step of the machine is one event (20_memory.md R55, R56). -/

namespace Sys2Proof.Machine

/-- One event: a host access, a tick or a reset, each indivisible (20_memory.md R46, R55, R56). -/
def step (s : State) : Host.Outcome State Fault Refusal :=
  applyEvent (nextEvent s) (takeEvent s)

/-- The command word `w` accepted, its first tick the next event (20_memory.md R48, R58; log 13). -/
def State.withFetchWord (s : State) (nbits w : Nat) : State := placeCommand nbits w s

end Sys2Proof.Machine
end

