-- ==== Sys2Proof/Machine/Program.lean ====
section
/-! DEFINITION. Host programs: the events each line stands for, and the pseudo-instructions' expansions (30_encoding.md R66 to R68). -/

namespace Sys2Proof.Machine

/-- The samples of a bit: `BIT0` is `L50 H26`, `BIT1` is `L50 H70` (30_encoding.md R67). -/
def bitSamples (b : Bool) : List Level :=
  List.replicate 50 false ++ List.replicate (if b then 70 else 26) true

/-- The bits of a byte, most significant first (30_encoding.md R67, 20_memory.md R51). -/
def byteBits (b : Byte) : List Bool :=
  [b.getLsbD 7, b.getLsbD 6, b.getLsbD 5, b.getLsbD 4, b.getLsbD 3, b.getLsbD 2, b.getLsbD 1, b.getLsbD 0]

/-- The samples of one run (30_encoding.md R67; `X<n>`: log 12). -/
def runSamples : Run → List Level
  | .low n        => List.replicate n false
  | .high n       => List.replicate n true
  | .any samples  => samples
  | .bit b        => bitSamples b
  | .byte b       => (byteBits b).flatMap bitSamples

/-- The ticks of a wave, in order (30_encoding.md R66, R67). -/
def waveEvents (wave : List Run) : List Event := (wave.flatMap runSamples).map .tick

/-- The offset a line names (30_encoding.md R66). -/
def placeOffset : Place → Offset
  | .reg r   => regOffset r
  | .raw off => off

/-- `HostWrite(offset(reg), value)` as an event. -/
def writeEvent (p : Place) (v : Word) : Event := .hostWrite { width := .word, off := placeOffset p } v

/-- `HostRead(offset(reg))` as an event. -/
def readEvent (p : Place) : Event := .hostRead { width := .word, off := placeOffset p }

/-- LOADFRAME from FRAMEk on: one write a byte (30_encoding.md R68). -/
def loadFrameEvents : Nat → List Byte → List Event
  | _, []      => []
  | k, b :: bs => writeEvent (.raw (BitVec.ofNat 7 (0x20 + 4 * k))) (b.setWidth 32) :: loadFrameEvents (k + 1) bs

/-- The events of a line, the pseudo-instructions expanded (30_encoding.md R66, R68). -/
def lineEvents : HostLine → List Event
  | .wr p v        => [writeEvent p v]
  | .rd p          => [readEvent p]
  | .cmd i         => [writeEvent (.reg .cmd) (encode i)]
  | .cmdw v        => [writeEvent (.reg .cmd) v]
  | .ticks wave    => waveEvents wave
  | .reset         => [.reset]
  | .init signed   => [writeEvent (.reg .ctrl) (1#32 + 2#32 * (BitVec.ofBool signed).setWidth 32)]
  | .deinit        => [writeEvent (.reg .ctrl) 0#32]
  | .loadFrame bs  => loadFrameEvents 0 bs

/-- The events of a program, in the order written (30_encoding.md R66). -/
def programEvents (p : List HostLine) : List Event := p.flatMap lineEvents

/-- A program handed to the machine: its events come after those already listed (log 13). -/
def loadProgram (p : List HostLine) (s : State) : State :=
  { s with inputs := s.inputs ++ programEvents p }

end Sys2Proof.Machine
end

