-- ==== Sys2Proof/Safety.lean ====
section
/-! DEFINITION. What claims are stated in: the invariant of the block, runs of ticks, and the results a host may rely on. -/

namespace Sys2Proof.Machine

/-- The phases of READ_FRAME's handshake (40_line_commands.md R82 to R84). -/
def Phase.isHandshake : Phase → Bool
  | .waitRelease | .respLow | .respHigh => true
  | .bitLow | .bitHigh => false

/-- What holds of the block at reset and after every event. It rules out only states no run reaches. -/
structure BlockInv (s : State) : Prop where
  /-- "STATUS.BUSY is 1 exactly when STATE is not IDLE" (10_state.md R30). -/
  busy_iff : s.busy = true ↔ s.fsm ≠ .idle
  /-- DONE is cleared when a command is accepted and set when it finishes (10_state.md R31). -/
  not_done_of_busy : s.busy = true → s.done = false
  /-- ERR is cleared when a command is accepted and written when it finishes (10_state.md R33). -/
  ok_of_busy : s.busy = true → s.err = .ok
  /-- An error is the error of a finished command (10_state.md R33). -/
  done_of_err : s.err ≠ .ok → s.done = true
  /-- "STATUS.STAGE is 0 except after a TIMEOUT" (10_state.md R34). -/
  stage_iff : s.stage.isSome = true ↔ s.err = .timeout
  /-- "drive_low is 1 only in state START" (10_state.md R40), and it is 1 there (40_line_commands.md R81). -/
  drive_iff : s.driveLow = true ↔ s.fsm = .start
  /-- Only an accepted, enabled, well-formed command gets past ACCEPT (40_line_commands.md R73). -/
  enabled : s.fsm ≠ .idle → s.fsm ≠ .accept → s.en = true ∧ s.rsvd = false
  /-- START is READ_FRAME's (10_state.md R22). -/
  start_op : s.fsm = .start → s.op = 1#4
  /-- The handshake is READ_FRAME's (40_line_commands.md R82 to R84). -/
  handshake_op : ∀ w, s.fsm = .wait w → w.isHandshake = true → s.op = 1#4
  /-- The bit phases are the two line commands' (40_line_commands.md R77). -/
  bit_op : ∀ w, s.fsm = .wait w → s.op = 1#4 ∨ s.op = 2#4
  /-- A phase that goes on has counted at most its limit (40_line_commands.md R74, R76). -/
  pcnt_le : ∀ w, s.fsm = .wait w → s.pcnt.toNat ≤ (limit w s).toNat
  /-- `pcnt` is 0 to 256 (10_state.md R42, 60_exceptions.md R133). -/
  pcnt_max : s.pcnt.toNat ≤ 256
  /-- A start pulse that goes on is not over (40_line_commands.md R81). -/
  scnt_lt : s.fsm = .start → s.scnt.toNat < startTicks s
  /-- `scnt` is 0 to 255000 (10_state.md R42, 60_exceptions.md R133). -/
  scnt_max : s.scnt.toNat ≤ 255000
  /-- The low phase before a high phase was accepted (40_line_commands.md R76, R85). -/
  lowcnt_le : s.fsm = .wait .bitHigh → s.lowcnt.toNat ≤ s.tBitLowMax.toNat
  /-- BITCNT is 0 to 40 (10_state.md R29, R34). -/
  bitcnt_max : s.bitcnt.toNat ≤ 40
  /-- No data bit is complete before the bit phases (10_state.md R34). -/
  bitcnt_zero : s.fsm = .accept ∨ s.fsm = .start ∨ (∃ w, s.fsm = .wait w ∧ w.isHandshake = true) → s.bitcnt = 0#6
  /-- A READ_FRAME still collecting bits has fewer than 40 (40_line_commands.md R85). -/
  bitcnt_frame : ∀ w, s.fsm = .wait w → s.op = 1#4 → s.bitcnt.toNat < 40
  /-- A READ_BIT still running has completed none (10_state.md R34). -/
  bitcnt_bit : ∀ w, s.fsm = .wait w → s.op = 2#4 → s.bitcnt = 0#6
  /-- SHIFT holds the bits collected and nothing above them (10_state.md R41, 40_line_commands.md R85). -/
  shift_lt : ∀ w, s.fsm = .wait w → s.op = 1#4 → s.shift.toNat < 2 ^ s.bitcnt.toNat
  /-- SHIFT is empty while the start pulse runs (40_line_commands.md R80). -/
  shift_start : s.fsm = .start → s.shift = 0#40
  /-- A negative temperature has a 15-bit magnitude (42_value_fields.md R112). -/
  temp_mag : s.temp.neg = true → s.temp.mag.toNat < 2 ^ 15

/-- The machine after the ticks with these samples, in order (20_memory.md R55). -/
def runTicks : List Level → State → Result
  | [], s      => .next s
  | x :: xs, s =>
    match tickEvent x s with
    | .next t    => runTicks xs t
    | .fault r   => .fault r
    | .refused r => .refused r

/-- `k` steps of the machine, stopping at the first fault or refusal. -/
def runSteps : Nat → State → Result
  | 0, s     => .next s
  | k + 1, s =>
    match step s with
    | .next t    => runSteps k t
    | .fault r   => .fault r
    | .refused r => .refused r

/-- The result registers of R88 and R128 but CALC: FRAME0 to FRAME7, HUM, TEMP, BITRES. -/
def sameResults (s t : State) : Prop :=
  t.frame = s.frame ∧ t.hum = s.hum ∧ t.temp = s.temp ∧ t.bitres = s.bitres

/-- The configuration registers CTRL, TIMING0 and TIMING1. -/
def sameConfig (s t : State) : Prop :=
  t.en = s.en ∧ t.signed = s.signed
    ∧ t.tBitLowMax = s.tBitLowMax ∧ t.tBitHighMax = s.tBitHighMax ∧ t.tOne = s.tOne ∧ t.startLowMs = s.startLowMs
    ∧ t.tReleaseMax = s.tReleaseMax ∧ t.tRespLowMax = s.tRespLowMax ∧ t.tRespHighMax = s.tRespHighMax

/-- The registers a write to which is dropped while BUSY = 1 (10_state.md R32). -/
def droppable : Reg → Bool
  | .cmd | .ctrl | .timing0 | .timing1 | .frame _ => true
  | .status | .bitres | .hum | .temp | .calcReg => false

/-- The most ticks a READ_FRAME takes, its ACCEPT tick counted (40_line_commands.md R90). -/
def readFrameBound (s : State) : Nat :=
  1 + startTicks s + s.tReleaseMax.toNat + s.tRespLowMax.toNat + s.tRespHighMax.toNat
    + 40 * (s.tBitLowMax.toNat + s.tBitHighMax.toNat) + 1

/-- The samples of a data bit that is low for `p.1` and high for `p.2` ticks. -/
def pulse (p : Nat × Nat) : List Level := List.replicate p.1 false ++ List.replicate p.2 true

end Sys2Proof.Machine
end

