-- ==== Sys2Proof/Certificates/Slice0/Obligations.lean ====
section
/-! DEFINITION. The statements for the provers, from the spec's numbered rules. -/

open Sys2Proof Sys2Proof.Machine

/-! ### Decoding, and a step runs the decoded command -/

/-- 30_encoding.md R61: the four words of the opcode map, and words the map does not name. -/
def Obligations.OpcodeMapWordsDecode : Prop :=
  decode 0x00000001#32 = .ok .readFrame ∧ decode 0x00000002#32 = .ok .readBit
    ∧ decode 0x00000003#32 = .ok .checkSum8 ∧ decode 0x00000004#32 = .ok .checkCrc16
    ∧ decode 0x00000000#32 = .error (.reservedOp 0x0#4) ∧ decode 0x00000005#32 = .error (.reservedOp 0x5#4)
    ∧ decode 0x0000000F#32 = .error (.reservedOp 0xF#4) ∧ decode 0x00000011#32 = .error .reservedBits
    ∧ decode 0x80000001#32 = .error .reservedBits

/-- 30_encoding.md R60 to R63: over all 2^32 words, the decoder reads a command from its encoding and from no other word;
it rejects a word for reserved bits exactly when a bit of [31:4] is set, and for its OP exactly when those bits are 0 and
the OP is 0x0 or 0x5 to 0xF. -/
def Obligations.DecodeReadsExactlyTheEncodings : Prop :=
  (∀ (w : Word) (i : Instr), decode w = .ok i ↔ w = encode i)
    ∧ (∀ w : Word, decode w = .error .reservedBits ↔ 16 ≤ w.toNat)
    ∧ (∀ (w : Word) (op : BitVec 4), decode w = .error (.reservedOp op)
        ↔ w.toNat = op.toNat ∧ (op.toNat = 0 ∨ 5 ≤ op.toNat))

/-- 40_line_commands.md R72, R73: a listed tick is one tick of the command in the latch, and a word that decodes to `i`
is latched so that the tick after its acceptance is `exec i`. That `exec` is one tick of a command, and what
`withFetchWord` sets up, are the model's choices (log 11, log 13). -/
def Obligations.StepRunsTheDecodedCommand : Prop :=
  (∀ (s : State) (x : Level) (rest : List Event) (i : Instr),
      s.inputs = .tick x :: rest → commandOf s.op = some i →
      step s = exec i { s with line := x, inputs := rest })
    ∧ (∀ (s : State) (w : Word) (x : Level) (rest : List Event) (i : Instr),
      decode w = .ok i →
      step { acceptWord w s with inputs := .tick x :: rest }
        = exec i { acceptWord w s with line := x, inputs := rest })
    ∧ (∀ (s : State) (w : Word) (i : Instr), decode w = .ok i →
      step (s.withFetchWord 32 w.toNat) = exec i { acceptWord w s with line := true })

/-- 20_memory.md R55: a step applies the next event: the oldest listed one, or, where none is listed, one the model leaves
free (log 1). -/
def Obligations.StepAppliesTheNextEvent : Prop :=
  (∀ (s : State) (e : Event) (rest : List Event), s.inputs = e :: rest →
      step s = applyEvent e { s with inputs := rest })
    ∧ (∀ s : State, s.inputs = [] →
      ∃ e : Event, step s = applyEvent e { s with envCount := s.envCount + 1 })

/-- 20_memory.md R55: the steps of a machine whose listed events are ticks are those ticks, in order. -/
def Obligations.TicksAreSteps : Prop :=
  ∀ (xs : List Level) (rest : List Event) (s : State),
    (∀ t, runTicks xs s = .next t →
        runSteps xs.length { s with inputs := xs.map .tick ++ rest } = .next { t with inputs := rest })
      ∧ (∀ r, runTicks xs s = .fault r →
        runSteps xs.length { s with inputs := xs.map .tick ++ rest } = .fault r)
      ∧ (∀ r, runTicks xs s ≠ .refused r)

/-! ### Reset -/

/-- 10_state.md R45: every piece of the block's state after reset. -/
def Obligations.ResetValues : Prop :=
  hostRead 0x00#7 State.reset = 0x00000000#32 ∧ hostRead 0x08#7 State.reset = 0x00000000#32
    ∧ hostRead 0x0C#7 State.reset = 0x0A1E4B37#32 ∧ hostRead 0x10#7 State.reset = 0x005555C8#32
    ∧ hostRead 0x14#7 State.reset = 0#32 ∧ hostRead 0x18#7 State.reset = 0#32
    ∧ hostRead 0x1C#7 State.reset = 0#32 ∧ hostRead 0x40#7 State.reset = 0#32
    ∧ (∀ k : Fin 8, hostRead (regOffset (.frame k)) State.reset = 0#32)
    ∧ State.reset.fsm = .idle ∧ State.reset.shift = 0#40 ∧ State.reset.op = 0#4 ∧ State.reset.rsvd = false
    ∧ State.reset.pcnt = 0#9 ∧ State.reset.scnt = 0#18 ∧ State.reset.lowcnt = 0#8 ∧ State.reset.driveLow = false

/-- 70_reset_and_hazards.md R140: the Reset event sets every piece of the block's state to its reset value in that one
event, whatever was running. (The fields not named are an input and the model's own.) -/
def Obligations.ResetEventRestoresReset : Prop :=
  ∀ (s : State) (rest : List Event), s.inputs = .reset :: rest →
    ∃ t, step s = .next t
      ∧ t = { State.reset with line := t.line, inputs := t.inputs, envCount := t.envCount, reads := t.reads }

/-- The invariant holds of the state after reset. -/
def Obligations.InvariantAtReset : Prop := BlockInv State.reset

/-- Every step keeps the invariant: BUSY, DONE, ERR, STAGE, BITCNT, `drive_low`, the counters and SHIFT stay as their
rules say (10_state.md R30 to R34, R40 to R42, 60_exceptions.md R133). -/
def Obligations.StepKeepsInvariant : Prop :=
  ∀ s t : State, BlockInv s → step s = .next t → BlockInv t

/-- From a state that meets the invariant no step faults, and a step refuses only an access R49 leaves undefined. -/
def Obligations.StepStopsOnlyOnUndefinedAccess : Prop :=
  ∀ s : State, BlockInv s →
    (∀ r, step s ≠ .fault r)
      ∧ (∀ r, step s = .refused r →
          ∃ a : Access, r = .accessNotDefined a ∧ a.wf = false
            ∧ (nextEvent s = .hostRead a ∨ ∃ v, nextEvent s = .hostWrite a v))
      ∧ ((nextEvent s).wf = true → ∃ t, step s = .next t)

/-! ### The register interface -/

/-- 10_state.md R22, R34, 60_exceptions.md R122: the codes a host reads in STATUS.STATE and STATUS.ERR, and 0 in
STATUS.STAGE where no phase timed out. -/
def Obligations.StatusCodes : Prop :=
  fsmCode .idle = 0#4 ∧ fsmCode .accept = 1#4 ∧ fsmCode .start = 2#4 ∧ fsmCode (.wait .waitRelease) = 3#4
    ∧ fsmCode (.wait .respLow) = 4#4 ∧ fsmCode (.wait .respHigh) = 5#4
    ∧ fsmCode (.wait .bitLow) = 6#4 ∧ fsmCode (.wait .bitHigh) = 7#4
    ∧ errCode .ok = 0#3 ∧ errCode .invalidArg = 1#3 ∧ errCode .notInit = 2#3 ∧ errCode .invalidResponse = 3#3
    ∧ errCode .timeout = 4#3 ∧ errCode .invalidChecksum = 5#3 ∧ stageCode none = 0#3

/-- 20_memory.md R47: a read of a whole register gives the host its value, field by field, and changes no state of the
block; CMD and the offsets with no register read 0. -/
def Obligations.HostReadReturnsTheRegister : Prop :=
  (∀ (s : State) (off : Offset) (rest : List Event),
      s.inputs = .hostRead { width := .word, off := off } :: rest → off.toNat % 4 = 0 →
      step s = .next { s with inputs := rest, reads := hostRead off s :: s.reads })
    ∧ (∀ s : State,
      (hostRead 0x00#7 s).toNat = s.en.toNat + 2 * s.signed.toNat
        ∧ hostRead 0x04#7 s = 0#32
        ∧ (hostRead 0x08#7 s).toNat = s.busy.toNat + 2 * s.done.toNat + 4 * s.rej.toNat
            + 2 ^ 4 * (errCode s.err).toNat + 2 ^ 8 * (stageCode s.stage).toNat + 2 ^ 16 * s.bitcnt.toNat
            + 2 ^ 24 * (fsmCode s.fsm).toNat
        ∧ (hostRead 0x0C#7 s).toNat = s.tBitLowMax.toNat + 2 ^ 8 * s.tBitHighMax.toNat
            + 2 ^ 16 * s.tOne.toNat + 2 ^ 24 * s.startLowMs.toNat
        ∧ (hostRead 0x10#7 s).toNat = s.tReleaseMax.toNat + 2 ^ 8 * s.tRespLowMax.toNat
            + 2 ^ 16 * s.tRespHighMax.toNat
        ∧ (hostRead 0x14#7 s).toNat = s.bitres.value.toNat + 2 ^ 8 * s.bitres.lowcnt.toNat
            + 2 ^ 16 * s.bitres.highcnt.toNat
        ∧ (hostRead 0x18#7 s).toNat = s.hum.toNat
        ∧ (hostRead 0x1C#7 s).toNat = s.temp.mag.toNat + 2 ^ 16 * s.temp.neg.toNat
        ∧ (∀ k : Fin 8, (hostRead (BitVec.ofNat 7 (0x20 + 4 * k.val)) s).toNat = s.frame[k].toNat)
        ∧ (hostRead 0x40#7 s).toNat = s.calcValue.toNat
        ∧ (∀ off : Offset, 0x44 ≤ off.toNat → hostRead off s = 0#32))

/-- 20_memory.md R48: a step on a write of a whole register completes with what the write does, and what a write of each
register does, and that nothing else changes. While BUSY = 0 it stores the fields, or accepts the command; while BUSY = 1
it is dropped and sets REJ; a read-only register or an offset with no register ignores it at any time. -/
def Obligations.HostWriteOfEveryRegister : Prop :=
  (∀ (s : State) (off : Offset) (v : Word) (rest : List Event),
      s.inputs = .hostWrite { width := .word, off := off } v :: rest → off.toNat % 4 = 0 →
      step s = .next (hostWrite off v { s with inputs := rest }))
    ∧ ∀ (s : State) (v : Word),
    (s.busy = false →
        hostWrite 0x04#7 v s =
            { s with
              op := v.extractLsb' 0 4, rsvd := decide (v.toNat / 16 ≠ 0)
              busy := true, done := false, rej := false, err := .ok, stage := none, bitcnt := 0#6, fsm := .accept }
          ∧ hostWrite 0x00#7 v s = { s with en := v.getLsbD 0, signed := v.getLsbD 1 }
          ∧ hostWrite 0x0C#7 v s =
              { s with
                tBitLowMax := v.extractLsb' 0 8, tBitHighMax := v.extractLsb' 8 8
                tOne := v.extractLsb' 16 8, startLowMs := v.extractLsb' 24 8 }
          ∧ hostWrite 0x10#7 v s =
              { s with
                tReleaseMax := v.extractLsb' 0 8, tRespLowMax := v.extractLsb' 8 8
                tRespHighMax := v.extractLsb' 16 8 }
          ∧ (∀ k : Fin 8, hostWrite (BitVec.ofNat 7 (0x20 + 4 * k.val)) v s
              = { s with frame := s.frame.set k (v.extractLsb' 0 8) }))
      ∧ (s.busy = true → ∀ (off : Offset) (r : Reg), regAt off = some r → droppable r = true →
          hostWrite off v s = { s with rej := true })
      ∧ (∀ (off : Offset) (r : Reg), regAt off = some r → droppable r = false → hostWrite off v s = s)
      ∧ (∀ off : Offset, regAt off = none → hostWrite off v s = s)

/-- 10_state.md R24, R25, R35, R36, R38: a register read back after a write holds the written bits but the reserved ones,
which read 0; the other FRAME bytes keep theirs. -/
def Obligations.ReadBackMasksReservedBits : Prop :=
  ∀ (s : State) (v : Word), s.busy = false →
    hostRead 0x00#7 (hostWrite 0x00#7 v s) = v &&& 0x00000003#32
      ∧ hostRead 0x0C#7 (hostWrite 0x0C#7 v s) = v
      ∧ hostRead 0x10#7 (hostWrite 0x10#7 v s) = v &&& 0x00FFFFFF#32
      ∧ (∀ k j : Fin 8, hostRead (regOffset (.frame j)) (hostWrite (regOffset (.frame k)) v s)
          = if j = k then v &&& 0x000000FF#32 else hostRead (regOffset (.frame j)) s)

/-- 10_state.md R23: the offset of every register, and that 0x44 to 0x7F hold none. -/
def Obligations.RegisterMap : Prop :=
  (∀ r : Reg, regAt (regOffset r) = some r)
    ∧ regOffset .ctrl = 0x00#7 ∧ regOffset .cmd = 0x04#7 ∧ regOffset .status = 0x08#7
    ∧ regOffset .timing0 = 0x0C#7 ∧ regOffset .timing1 = 0x10#7 ∧ regOffset .bitres = 0x14#7
    ∧ regOffset .hum = 0x18#7 ∧ regOffset .temp = 0x1C#7 ∧ regOffset .calcReg = 0x40#7
    ∧ (∀ k : Fin 8, (regOffset (.frame k)).toNat = 0x20 + 4 * k.val)
    ∧ (∀ off : Offset, 0x44 ≤ off.toNat → regAt off = none)

/-- 20_memory.md R49: an access is refused exactly when it is narrower than 32 bits or misaligned; every other one
completes. -/
def Obligations.OnlyWholeAlignedAccessesComplete : Prop :=
  ∀ (s : State) (a : Access) (v : Word) (rest : List Event),
    (s.inputs = .hostRead a :: rest ∨ s.inputs = .hostWrite a v :: rest) →
    ((a.width = .word ∧ a.off.toNat % 4 = 0) → ∃ t, step s = .next t)
      ∧ (¬(a.width = .word ∧ a.off.toNat % 4 = 0) → step s = .refused (.accessNotDefined a))

/-- 20_memory.md R50: an aligned access to 0x44 to 0x7C reads 0 and writes nothing, REJ included; an address outside the
128-byte window is no access of the block. -/
def Obligations.UnmappedOffsetsReadZeroAndIgnoreWrites : Prop :=
  (∀ (s : State) (off : Offset) (v : Word) (rest : List Event), 0x44 ≤ off.toNat → off.toNat % 4 = 0 →
      (s.inputs = .hostRead { width := .word, off := off } :: rest →
          step s = .next { s with inputs := rest, reads := 0#32 :: s.reads })
        ∧ (s.inputs = .hostWrite { width := .word, off := off } v :: rest →
          step s = .next { s with inputs := rest }))
    ∧ (∀ (width : AccessWidth) (v : Word) (addr : Nat), addr < Config.BASE ∨ Config.BASE + 128 ≤ addr →
      platformRead width addr = none ∧ platformWrite width addr v = none)

/-- 20_memory.md R54: the window is the 128 bytes from BASE: an address in it is the access at its offset (log 8). -/
def Obligations.WindowSpansBase : Prop :=
  ∀ (width : AccessWidth) (v : Word) (off : Offset),
    platformRead width (Config.BASE + off.toNat) = some (.hostRead { width := width, off := off })
      ∧ platformWrite width (Config.BASE + off.toNat) v = some (.hostWrite { width := width, off := off } v)

/-- 10_state.md R32: REJ is set by a write to CMD, CTRL, TIMING0, TIMING1 or FRAMEk dropped because BUSY = 1 and by nothing
else, and it is cleared by the acceptance of a command and by Reset, and by nothing else. -/
def Obligations.RejectionIsSetOnlyByADroppedWrite : Prop :=
  ∀ (s t : State) (e : Event), applyEvent e s = .next t →
    (∀ (a : Access) (v : Word) (r : Reg), e = .hostWrite a v → regAt a.off = some r → droppable r = true →
        s.busy = true → t.rej = true)
      ∧ (s.rej = false → t.rej = true → ∃ (a : Access) (v : Word) (r : Reg),
          e = .hostWrite a v ∧ regAt a.off = some r ∧ droppable r = true ∧ s.busy = true)
      ∧ ((e = .reset ∨ ∃ (a : Access) (v : Word), e = .hostWrite a v ∧ regAt a.off = some .cmd ∧ s.busy = false) →
          t.rej = false)
      ∧ (s.rej = true → t.rej = false →
          e = .reset ∨ ∃ (a : Access) (v : Word), e = .hostWrite a v ∧ regAt a.off = some .cmd ∧ s.busy = false)

/-- 10_state.md R41: what a host reads does not depend on SHIFT or on any other hidden state. -/
def Obligations.HiddenStateIsNotReadable : Prop :=
  ∀ (s t : State),
    (t = { s with
      shift := t.shift, op := t.op, rsvd := t.rsvd, pcnt := t.pcnt, scnt := t.scnt, lowcnt := t.lowcnt
      driveLow := t.driveLow, line := t.line, inputs := t.inputs, envCount := t.envCount, reads := t.reads }) →
    ∀ off : Offset, hostRead off t = hostRead off s

/-- 30_encoding.md R66, R68: the pseudo-instructions' expansions; LOADFRAME is one write a byte, in order, and no other. -/
def Obligations.PseudoInstructionExpansions : Prop :=
  lineEvents (.init false) = [.hostWrite { width := .word, off := 0x00#7 } 1#32]
    ∧ lineEvents (.init true) = [.hostWrite { width := .word, off := 0x00#7 } 3#32]
    ∧ lineEvents .deinit = [.hostWrite { width := .word, off := 0x00#7 } 0#32]
    ∧ lineEvents (.cmd .readFrame) = [.hostWrite { width := .word, off := 0x04#7 } 0x00000001#32]
    ∧ lineEvents (.cmd .readBit) = [.hostWrite { width := .word, off := 0x04#7 } 0x00000002#32]
    ∧ lineEvents (.cmd .checkSum8) = [.hostWrite { width := .word, off := 0x04#7 } 0x00000003#32]
    ∧ lineEvents (.cmd .checkCrc16) = [.hostWrite { width := .word, off := 0x04#7 } 0x00000004#32]
    ∧ (∀ w : Word, lineEvents (.cmdw w) = [.hostWrite { width := .word, off := 0x04#7 } w])
    ∧ (∀ bs : List Byte, (lineEvents (.loadFrame bs)).length = bs.length)
    ∧ (∀ (bs : List Byte) (k : Nat) (h : k < bs.length), bs.length ≤ 8 →
        (lineEvents (.loadFrame bs))[k]?
          = some (.hostWrite { width := .word, off := BitVec.ofNat 7 (0x20 + 4 * k) } (bs[k].setWidth 32)))

/-! ### The tick rule and the ACCEPT checks -/

/-- 40_line_commands.md R72: in IDLE a tick has no effect on the block, whatever command the latch names. -/
def Obligations.IdleIgnoresTicks : Prop :=
  (∀ (s : State) (i : Instr), s.fsm = .idle → exec i s = .next s)
    ∧ (∀ (s : State) (x : Level) (rest : List Event), s.fsm = .idle → s.inputs = .tick x :: rest →
        step s = .next { s with line := x, inputs := rest })

/-- 60_exceptions.md R125 and 40_line_commands.md R73: a line command with EN = 0 ends at its ACCEPT tick with NOT_INIT,
whatever the reserved bits hold, without a look at the line; nothing but STATUS changes, and the line is released. -/
def Obligations.LineCommandBeforeInitEndsWithNotInit : Prop :=
  ∀ (s : State) (i : Instr), (i = .readFrame ∨ i = .readBit) → s.fsm = .accept → s.en = false →
    exec i s = .next { s with err := .notInit, fsm := .idle, busy := false, done := true, driveLow := false }

/-- 30_encoding.md R62: a word with a bit of [31:4] set is accepted like any other, and at its ACCEPT tick ends with
INVALID_ARG, or with NOT_INIT where its OP is 0x1 or 0x2 and EN = 0; it does nothing else, whatever the line is. -/
def Obligations.ReservedBitsEndWithInvalidArg : Prop :=
  ∀ (s : State) (v : Word) (x : Level), s.busy = false → 16 ≤ v.toNat →
    (hostWrite 0x04#7 v s).busy = true ∧ (hostWrite 0x04#7 v s).rsvd = true
      ∧ (hostWrite 0x04#7 v s).fsm = .accept
      ∧ tickEvent x (hostWrite 0x04#7 v s) = .next
          { hostWrite 0x04#7 v s with
            line := x
            err := if (v.toNat % 16 = 1 ∨ v.toNat % 16 = 2) ∧ s.en = false then .notInit else .invalidArg
            fsm := .idle, busy := false, done := true, driveLow := false }

/-- 30_encoding.md R63: a reserved OP ends at its ACCEPT tick with INVALID_ARG, whatever EN, the reserved bits and the line
are; nothing but STATUS changes. -/
def Obligations.ReservedOpEndsWithInvalidArg : Prop :=
  ∀ (s : State) (x : Level) (rest : List Event), s.inputs = .tick x :: rest →
    (s.op.toNat = 0 ∨ 5 ≤ s.op.toNat) → s.fsm = .accept →
    step s = .next
      { s with
        line := x, inputs := rest
        err := .invalidArg, fsm := .idle, busy := false, done := true, driveLow := false }

/-! ### The timed wait -/

/-- 40_line_commands.md R75: the level, the limit and the stage code of each phase. -/
def Obligations.PhaseTable : Prop :=
  ∀ s : State,
    (level .waitRelease = true ∧ limit .waitRelease s = s.tReleaseMax ∧ stageCode (some .waitRelease) = 1#3)
      ∧ (level .respLow = false ∧ limit .respLow s = s.tRespLowMax ∧ stageCode (some .respLow) = 2#3)
      ∧ (level .respHigh = true ∧ limit .respHigh s = s.tRespHighMax ∧ stageCode (some .respHigh) = 3#3)
      ∧ (level .bitLow = false ∧ limit .bitLow s = s.tBitLowMax ∧ stageCode (some .bitLow) = 4#3)
      ∧ (level .bitHigh = true ∧ limit .bitHigh s = s.tBitHighMax ∧ stageCode (some .bitHigh) = 5#3)

/-- 40_line_commands.md R74, 60_exceptions.md R127: a sample at the phase's level is counted; a count that passes the limit
ends the command with TIMEOUT and the phase's stage on that tick, else the phase goes on. Nothing else changes. -/
def Obligations.SampleAtLevelIsCountedOrTimesOut : Prop :=
  ∀ (s : State) (i : Instr) (w : Phase), (i = .readFrame ∨ i = .readBit) → s.fsm = .wait w → s.line = level w →
    s.pcnt.toNat ≤ 255 →
    (s.pcnt.toNat + 1 ≤ (limit w s).toNat → exec i s = .next { s with pcnt := s.pcnt + 1#9 })
      ∧ ((limit w s).toNat < s.pcnt.toNat + 1 →
          exec i s = .next
            { s with
              pcnt := s.pcnt + 1#9, stage := some w
              err := .timeout, fsm := .idle, busy := false, done := true, driveLow := false })

/-- 40_line_commands.md R77: the phase that a sample enters is at that sample's level, so entering it counts the sample as
`Phase(next, s)` does: for each phase and the one it ends into, the levels differ, and entry and wait are the same. -/
def Obligations.EnteredPhaseCountsItsFirstSample : Prop :=
  (level .respLow ≠ level .waitRelease ∧ level .respHigh ≠ level .respLow ∧ level .bitLow ≠ level .respHigh
      ∧ level .bitHigh ≠ level .bitLow ∧ level .bitLow ≠ level .bitHigh)
    ∧ (∀ (s : State) (w : Phase) (f : BitVec 9 → State → Result), s.line = level w →
        phaseTick w f { s with fsm := .wait w } = .next (enterPhase w s))
    ∧ (∀ (s : State) (w : Phase), s.pcnt = 0#9 → 1 ≤ (limit w s).toNat →
        enterPhase w s = { s with fsm := .wait w, pcnt := 1#9 })
    ∧ (∀ (s : State) (w : Phase), s.pcnt = 0#9 → limit w s = 0#8 →
        enterPhase w s =
          { s with
            pcnt := 1#9, stage := some w
            err := .timeout, fsm := .idle, busy := false, done := true, driveLow := false })

/-- 40_line_commands.md R77, R82 to R84, R89: a sample at the other level ends a handshake phase of READ_FRAME and is the
first sample of the next phase, which times out at once where its limit is 0. -/
def Obligations.HandshakePhasesFollowInOrder : Prop :=
  ∀ (s : State) (w n : Phase),
    ((w = .waitRelease ∧ n = .respLow) ∨ (w = .respLow ∧ n = .respHigh) ∨ (w = .respHigh ∧ n = .bitLow)) →
    s.fsm = .wait w → s.line ≠ level w →
    (1 ≤ (limit n s).toNat → exec .readFrame s = .next { s with fsm := .wait n, pcnt := 1#9 })
      ∧ (limit n s = 0#8 →
        exec .readFrame s = .next
          { s with
            pcnt := 1#9, stage := some n
            err := .timeout, fsm := .idle, busy := false, done := true, driveLow := false })

/-- 40_line_commands.md R77: a high sample ends the low phase of a data bit; its count is kept and the high phase begins. -/
def Obligations.LowPhaseEndsIntoHighPhase : Prop :=
  ∀ (s : State) (i : Instr), (i = .readFrame ∨ i = .readBit) → s.fsm = .wait .bitLow → s.line = true →
    s.pcnt.toNat ≤ 255 →
    (1 ≤ s.tBitHighMax.toNat →
        exec i s = .next
          { s with fsm := .wait .bitHigh, pcnt := 1#9, lowcnt := BitVec.ofNat 8 s.pcnt.toNat })
      ∧ (s.tBitHighMax = 0#8 →
        exec i s = .next
          { s with
            pcnt := 1#9, lowcnt := BitVec.ofNat 8 s.pcnt.toNat, stage := some .bitHigh
            err := .timeout, fsm := .idle, busy := false, done := true, driveLow := false })

/-- 40_line_commands.md R76: a phase entered with count 0 goes on through k samples at its level while k is at most its
limit, and times out exactly at its (LIMIT + 1)-th. -/
def Obligations.PhaseLastsAtMostItsLimit : Prop :=
  ∀ (s : State) (w : Phase) (k : Nat), (s.op = 1#4 ∨ s.op = 2#4) → s.fsm = .wait w → s.pcnt = 0#9 →
    (1 ≤ k → k ≤ (limit w s).toNat →
        runTicks (List.replicate k (level w)) s
          = .next { s with pcnt := BitVec.ofNat 9 k, line := level w })
      ∧ (k = (limit w s).toNat + 1 →
        runTicks (List.replicate k (level w)) s
          = .next
              { s with
                pcnt := BitVec.ofNat 9 k, line := level w, stage := some w
                err := .timeout, fsm := .idle, busy := false, done := true, driveLow := false })

/-! ### READ_BIT -/

/-- 40_line_commands.md R78: the ACCEPT tick of READ_BIT. A low sample is the first of the low phase; a line already high
ends it at once with a low count of 0. -/
def Obligations.ReadBitAcceptTick : Prop :=
  ∀ s : State, s.fsm = .accept → s.en = true → s.rsvd = false →
    (s.line = false → 1 ≤ s.tBitLowMax.toNat →
        exec .readBit s = .next { s with fsm := .wait .bitLow, pcnt := 1#9, lowcnt := 0#8 })
      ∧ (s.line = true → 1 ≤ s.tBitHighMax.toNat →
        exec .readBit s = .next { s with fsm := .wait .bitHigh, pcnt := 1#9, lowcnt := 0#8 })
      ∧ (s.line = false → s.tBitLowMax = 0#8 →
        exec .readBit s = .next
          { s with
            pcnt := 1#9, lowcnt := 0#8, stage := some .bitLow
            err := .timeout, fsm := .idle, busy := false, done := true, driveLow := false })
      ∧ (s.line = true → s.tBitHighMax = 0#8 →
        exec .readBit s = .next
          { s with
            pcnt := 1#9, lowcnt := 0#8, stage := some .bitHigh
            err := .timeout, fsm := .idle, busy := false, done := true, driveLow := false })

/-- 40_line_commands.md R77, R78: the low sample that ends the high phase ends READ_BIT with OK: BITRES holds the bit,
1 when the high count is greater than T_ONE, and both counts; BITCNT is 1; nothing else of the block changes. -/
def Obligations.ReadBitStoresTheBit : Prop :=
  ∀ s : State, s.fsm = .wait .bitHigh → s.line = false → s.pcnt.toNat ≤ 255 →
    exec .readBit s = .next
      { s with
        bitres := { value := decide (s.tOne.toNat < s.pcnt.toNat), lowcnt := s.lowcnt,
                    highcnt := BitVec.ofNat 8 s.pcnt.toNat }
        bitcnt := 1#6, pcnt := 0#9
        err := .ok, fsm := .idle, busy := false, done := true, driveLow := false }

/-- A whole READ_BIT: a low phase of l and a high phase of h samples, both within their limits, and the low sample that
ends it, decode to BITRES = (h > T_ONE, l, h) with OK on tick l + h + 1, the command still running on the tick before (from
R74, R77, R78; l = 0 is a line already high). -/
def Obligations.ReadBitDecodesEveryAcceptedPulse : Prop :=
  ∀ (s : State) (l h : Nat), s.fsm = .accept → s.op = 2#4 → s.en = true → s.rsvd = false →
    l ≤ s.tBitLowMax.toNat → 1 ≤ h → h ≤ s.tBitHighMax.toNat →
    (∃ u, runTicks (pulse (l, h)) s = .next u ∧ u.fsm = .wait .bitHigh)
      ∧ runTicks (pulse (l, h) ++ [false]) s = .next
        { s with
          line := false, pcnt := 0#9, lowcnt := BitVec.ofNat 8 l
          bitres := { value := decide (s.tOne.toNat < h), lowcnt := BitVec.ofNat 8 l, highcnt := BitVec.ofNat 8 h }
          bitcnt := 1#6
          err := .ok, fsm := .idle, busy := false, done := true, driveLow := false }

/-- 40_line_commands.md R79: whatever the samples, READ_BIT has finished by tick T_BIT_LOW_MAX + T_BIT_HIGH_MAX + 1, its
ACCEPT tick counted; with the defaults that is tick 131. -/
def Obligations.ReadBitFinishesWithinItsBound : Prop :=
  (∀ (s : State) (xs : List Level), s.fsm = .accept → s.op = 2#4 → s.en = true → s.rsvd = false →
      xs.length = s.tBitLowMax.toNat + s.tBitHighMax.toNat + 1 →
      ∃ t, runTicks xs s = .next t ∧ t.fsm = .idle ∧ t.busy = false ∧ t.done = true)
    ∧ State.reset.tBitLowMax.toNat + State.reset.tBitHighMax.toNat + 1 = 131

/-! ### READ_FRAME -/

/-- 40_line_commands.md R80: the ACCEPT tick of READ_FRAME. A low line ends it with INVALID_RESPONSE and no handshake; a
high one clears SHIFT and starts the low pulse, or the release wait where START_LOW_MS is 0. -/
def Obligations.ReadFrameAcceptTick : Prop :=
  ∀ s : State, s.fsm = .accept → s.en = true → s.rsvd = false →
    (s.line = false →
        exec .readFrame s = .next
          { s with err := .invalidResponse, fsm := .idle, busy := false, done := true, driveLow := false })
      ∧ (s.line = true → s.startLowMs ≠ 0#8 →
        exec .readFrame s = .next
          { s with shift := 0#40, pcnt := 0#9, scnt := 0#18, driveLow := true, fsm := .start })
      ∧ (s.line = true → s.startLowMs = 0#8 →
        exec .readFrame s = .next
          { s with shift := 0#40, pcnt := 0#9, scnt := 0#18, fsm := .wait .waitRelease })

/-- 40_line_commands.md R81: a START tick counts one, whatever the sample; at N = START_LOW_MS * 1000 it releases the line
and the release wait begins. So from the ACCEPT tick of a READ_FRAME with the line high, `drive_low` is 1 after the ACCEPT
tick and after each START tick but the N-th, and 0 after that one, and no error occurs. -/
def Obligations.StartPulseLastsItsMilliseconds : Prop :=
  (∀ s : State, s.fsm = .start →
      (s.scnt.toNat + 1 < s.startLowMs.toNat * 1000 →
          exec .readFrame s = .next { s with scnt := s.scnt + 1#18 })
        ∧ (s.scnt.toNat + 1 = s.startLowMs.toNat * 1000 →
          exec .readFrame s = .next
            { s with scnt := s.scnt + 1#18, driveLow := false, pcnt := 0#9, fsm := .wait .waitRelease }))
    ∧ (∀ (s : State) (xs : List Level), s.fsm = .accept → s.op = 1#4 → s.en = true → s.rsvd = false →
      s.startLowMs ≠ 0#8 →
      (xs.length < s.startLowMs.toNat * 1000 →
          ∃ t, runTicks (true :: xs) s = .next t ∧ t.driveLow = true ∧ t.fsm = .start ∧ t.err = s.err)
        ∧ (xs.length = s.startLowMs.toNat * 1000 →
          ∃ t, runTicks (true :: xs) s = .next t ∧ t.driveLow = false ∧ t.fsm = .wait .waitRelease
            ∧ t.pcnt = 0#9 ∧ t.err = s.err))

/-- 40_line_commands.md R85: a low sample that ends one of the first 39 bits shifts the bit in, counts it, and is the first
low sample of the next bit. -/
def Obligations.FrameBitIsShiftedIn : Prop :=
  ∀ s : State, s.fsm = .wait .bitHigh → s.line = false → s.bitcnt.toNat < 39 →
    (1 ≤ s.tBitLowMax.toNat →
        exec .readFrame s = .next
          { s with
            shift := BitVec.ofNat 40 (2 * s.shift.toNat + (decide (s.tOne.toNat < s.pcnt.toNat)).toNat)
            bitcnt := s.bitcnt + 1#6, fsm := .wait .bitLow, pcnt := 1#9 })
      ∧ (s.tBitLowMax = 0#8 →
        exec .readFrame s = .next
          { s with
            shift := BitVec.ofNat 40 (2 * s.shift.toNat + (decide (s.tOne.toNat < s.pcnt.toNat)).toNat)
            bitcnt := s.bitcnt + 1#6, pcnt := 1#9, stage := some .bitLow
            err := .timeout, fsm := .idle, busy := false, done := true, driveLow := false })

/-- 40_line_commands.md R86, R87: the low sample that ends the 40th bit ends READ_FRAME. With a matching sum the frame is
committed: FRAME[0..4], CALC, HUM and TEMP are written, FRAME[5..7] are not; without one, INVALID_CHECKSUM and no result
changes. `sh` is SHIFT with the 40th bit. -/
def Obligations.LastBitCommitsOrFails : Prop :=
  ∀ (s : State) (sh : BitVec 40), s.fsm = .wait .bitHigh → s.line = false → s.bitcnt = 39#6 →
    sh = BitVec.ofNat 40 (2 * s.shift.toNat + (decide (s.tOne.toNat < s.pcnt.toNat)).toNat) →
    let b := fun k : Nat => BitVec.ofNat 8 (sh.toNat / 2 ^ (32 - 8 * k))
    let sum := BitVec.ofNat 8 ((b 0).toNat + (b 1).toNat + (b 2).toNat + (b 3).toNat)
    (b 4 = sum →
        exec .readFrame s = .next
          { s with
            shift := sh, bitcnt := 40#6, pcnt := 0#9
            frame := #v[b 0, b 1, b 2, b 3, b 4, s.frame[5], s.frame[6], s.frame[7]]
            calcValue := BitVec.ofNat 16 sum.toNat
            hum := b 0 ++ b 1
            temp := temperatureOf s.signed { hHi := b 0, hLo := b 1, tHi := b 2, tLo := b 3 }
            err := .ok, fsm := .idle, busy := false, done := true, driveLow := false })
      ∧ (b 4 ≠ sum →
        exec .readFrame s = .next
          { s with
            shift := sh, bitcnt := 40#6, pcnt := 0#9
            err := .invalidChecksum, fsm := .idle, busy := false, done := true, driveLow := false })

/-- 20_memory.md R51: bit `i` of the 40 bits received lands in `FRAME[i div 8]` at bit `7 - (i mod 8)`. -/
def Obligations.FrameBitsArriveMostSignificantFirst : Prop :=
  ∀ (s : State) (bits : Vector Bool 40) (i : Fin 40),
    ((frameOfShift (bits.toList.foldl (fun t b => shiftIn b t) s).shift s.frame)[i.val / 8]).getLsbD (7 - i.val % 8)
      = bits[i]

/-- A whole READ_FRAME: any waveform whose phases are within their limits, with any samples during START, is decoded: the
40 bits are the high counts compared with T_ONE, packed most significant first, and the frame is committed or fails by its
sum, on the tick of the low sample after the last bit, the read still running on the tick before (from R74 to R77, R80 to
R88, R51). -/
def Obligations.ReadFrameDecodesEveryAcceptedWaveform : Prop :=
  ∀ (s : State) (start : List Level) (rel lo hi : Nat) (bits : Vector (Nat × Nat) 40),
    s.fsm = .accept → s.op = 1#4 → s.en = true → s.rsvd = false → s.bitcnt = 0#6 →
    start.length = s.startLowMs.toNat * 1000 →
    rel ≤ s.tReleaseMax.toNat → 1 ≤ lo → lo ≤ s.tRespLowMax.toNat → 1 ≤ hi → hi ≤ s.tRespHighMax.toNat →
    (∀ k : Fin 40, 1 ≤ bits[k].1 ∧ bits[k].1 ≤ s.tBitLowMax.toNat
        ∧ 1 ≤ bits[k].2 ∧ bits[k].2 ≤ s.tBitHighMax.toNat) →
    ∃ (u t : State) (b : Vector Byte 5),
      runTicks (true :: start ++ List.replicate rel true ++ pulse (lo, hi) ++ bits.toList.flatMap pulse) s = .next u
        ∧ u.fsm = .wait .bitHigh
        ∧ runTicks (true :: start ++ List.replicate rel true ++ pulse (lo, hi)
            ++ bits.toList.flatMap pulse ++ [false]) s = .next t
        ∧ (∀ k : Fin 40, b[k.val / 8].getLsbD (7 - k.val % 8) = decide (s.tOne.toNat < bits[k].2))
        ∧ t.fsm = .idle ∧ t.busy = false ∧ t.done = true ∧ t.driveLow = false ∧ t.bitcnt = 40#6
        ∧ t.rej = s.rej ∧ t.stage = s.stage ∧ t.bitres = s.bitres ∧ sameConfig s t
        ∧ (b[4] = sum8 b[0] b[1] b[2] b[3] →
            t.err = .ok ∧ t.frame = #v[b[0], b[1], b[2], b[3], b[4], s.frame[5], s.frame[6], s.frame[7]]
              ∧ t.calcValue = (b[4]).setWidth 16 ∧ t.hum = b[0] ++ b[1]
              ∧ t.temp = temperatureOf s.signed { hHi := b[0], hLo := b[1], tHi := b[2], tLo := b[3] })
        ∧ (b[4] ≠ sum8 b[0] b[1] b[2] b[3] →
            t.err = .invalidChecksum ∧ sameResults s t ∧ t.calcValue = s.calcValue)

/-- 40_line_commands.md R90: whatever the samples, READ_FRAME has finished by the tick R90 gives; with the defaults that is
tick 15572. -/
def Obligations.ReadFrameFinishesWithinItsBound : Prop :=
  (∀ (s : State) (xs : List Level), s.fsm = .accept → s.op = 1#4 → s.en = true → s.rsvd = false →
      s.bitcnt = 0#6 → xs.length = readFrameBound s →
      ∃ t, runTicks xs s = .next t ∧ t.fsm = .idle ∧ t.busy = false ∧ t.done = true)
    ∧ readFrameBound State.reset = 15572

/-! ### The check commands -/

/-- 41_checksum_commands.md R100, R103: CHECK_SUM8 ends in its ACCEPT tick. CALC is the sum of FRAME[0..3] modulo 256 either
way; with a matching FRAME[4] HUM and TEMP are latched in the single-wire layout and ERR is OK, else INVALID_CHECKSUM. EN
and the line are not read. A word with reserved bits ends with INVALID_ARG and writes no result. -/
def Obligations.CheckSum8ValidatesTheFrame : Prop :=
  (∀ s : State, s.fsm = .accept → s.rsvd = false →
    let sum := BitVec.ofNat 8 (s.frame[0].toNat + s.frame[1].toNat + s.frame[2].toNat + s.frame[3].toNat)
    (s.frame[4] = sum →
        exec .checkSum8 s = .next
          { s with
            calcValue := BitVec.ofNat 16 sum.toNat, hum := s.frame[0] ++ s.frame[1]
            temp := temperatureOf s.signed
              { hHi := s.frame[0], hLo := s.frame[1], tHi := s.frame[2], tLo := s.frame[3] }
            err := .ok, fsm := .idle, busy := false, done := true, driveLow := false })
      ∧ (s.frame[4] ≠ sum →
        exec .checkSum8 s = .next
          { s with
            calcValue := BitVec.ofNat 16 sum.toNat
            err := .invalidChecksum, fsm := .idle, busy := false, done := true, driveLow := false }))
    ∧ (∀ s : State, s.fsm = .accept → s.rsvd = true →
        exec .checkSum8 s = .next
          { s with err := .invalidArg, fsm := .idle, busy := false, done := true, driveLow := false })

/-- 41_checksum_commands.md R104: CHECK_CRC16 ends in its ACCEPT tick. CALC is the CRC of FRAME[0..5] either way; where it is
FRAME[6] + 256 * FRAME[7], HUM and TEMP are latched in the bus layout and ERR is OK, else INVALID_CHECKSUM.
A word with reserved bits ends with INVALID_ARG and writes no result. -/
def Obligations.CheckCrc16ValidatesTheFrame : Prop :=
  (∀ s : State, s.fsm = .accept → s.rsvd = false →
    let crc := crc16 [s.frame[0], s.frame[1], s.frame[2], s.frame[3], s.frame[4], s.frame[5]]
    (crc.toNat = s.frame[6].toNat + 256 * s.frame[7].toNat →
        exec .checkCrc16 s = .next
          { s with
            calcValue := crc, hum := s.frame[2] ++ s.frame[3]
            temp := temperatureOf s.signed
              { hHi := s.frame[2], hLo := s.frame[3], tHi := s.frame[4], tLo := s.frame[5] }
            err := .ok, fsm := .idle, busy := false, done := true, driveLow := false })
      ∧ (crc.toNat ≠ s.frame[6].toNat + 256 * s.frame[7].toNat →
        exec .checkCrc16 s = .next
          { s with
            calcValue := crc
            err := .invalidChecksum, fsm := .idle, busy := false, done := true, driveLow := false }))
    ∧ (∀ s : State, s.fsm = .accept → s.rsvd = true →
        exec .checkCrc16 s = .next
          { s with err := .invalidArg, fsm := .idle, busy := false, done := true, driveLow := false })

/-- 41_checksum_commands.md R100: Sum8 is the sum of the four bytes modulo 256. -/
def Obligations.Sum8IsTheSumModulo256 : Prop :=
  ∀ b0 b1 b2 b3 : Byte,
    (sum8 b0 b1 b2 b3).toNat = (b0.toNat + b1.toNat + b2.toNat + b3.toNat) % 256

/-- 41_checksum_commands.md R101: the CRC starts at 0xFFFF; a byte enters the low 8 bits by exclusive-or and takes eight
steps; a step shifts right by one and, where the bit shifted out is 1, exclusive-ors 0xA001; nothing is done at the end.
The nine ASCII bytes "123456789" give 0x4B37. That a byte enters the low 8 bits, that nothing is done at the end, and the
value 0x4B37 are general knowledge, not the source's: PRESUMED, log 17. -/
def Obligations.Crc16IsTheReflectedLoop : Prop :=
  crc16 [] = 0xFFFF#16
    ∧ (∀ (m : List Byte) (b : Byte),
        crc16 (m ++ [b]) = (Nat.repeat (fun c : BitVec 16 =>
          if c.toNat % 2 = 1 then BitVec.ofNat 16 (c.toNat / 2) ^^^ 0xA001#16 else BitVec.ofNat 16 (c.toNat / 2))
          8 (crc16 m ^^^ BitVec.ofNat 16 b.toNat)))
    ∧ crc16 [0x31#8, 0x32#8, 0x33#8, 0x34#8, 0x35#8, 0x36#8, 0x37#8, 0x38#8, 0x39#8] = 0x4B37#16

/-- A bus frame is valid exactly when the CRC over all eight of its bytes is 0 (from R101 and R102). It rests on log 17
(PRESUMED): a byte enters the low 8 bits, and there is no final exclusive-or. -/
def Obligations.BusFrameIsValidIffItsCrcIsZero : Prop :=
  ∀ f : Vector Byte 8,
    (crc16 [f[0], f[1], f[2], f[3], f[4], f[5]]).toNat = f[6].toNat + 256 * f[7].toNat
      ↔ crc16 f.toList = 0#16

/-- 41_checksum_commands.md R105: the checks are functions of the FRAME bytes and finish in the ACCEPT tick: on two states
that agree on FRAME, a check ends in that tick with the same ERR and CALC, and the same HUM where it ends with OK, whatever
the line, EN, SIGNED and the thresholds are. TEMP, where it ends with OK, is the same if SIGNED is the same too. -/
def Obligations.ChecksDependOnlyOnTheFrame : Prop :=
  ∀ (s s' : State) (i : Instr), (i = .checkSum8 ∨ i = .checkCrc16) →
    s.fsm = .accept → s'.fsm = .accept → s.rsvd = false → s'.rsvd = false →
    s'.frame = s.frame →
    ∃ t t', exec i s = .next t ∧ exec i s' = .next t' ∧ t.fsm = .idle ∧ t'.fsm = .idle
      ∧ t'.err = t.err ∧ t'.calcValue = t.calcValue
      ∧ (t.err = .ok → t'.hum = t.hum ∧ (s'.signed = s.signed → t'.temp = t.temp))

/-- From 41_checksum_commands.md R106: apart from Reset, CALC changes only in a tick that ends a CHECK_SUM8 or a
CHECK_CRC16, or ends a READ_FRAME with OK. -/
def Obligations.CalcChangesOnlyByTheChecksAndTheCommit : Prop :=
  ∀ (s t : State) (e : Event), applyEvent e s = .next t → e ≠ .reset → t.calcValue ≠ s.calcValue →
    (∃ x, e = .tick x) ∧ s.fsm ≠ .idle ∧ t.fsm = .idle ∧ t.done = true
      ∧ (s.op = 3#4 ∨ s.op = 4#4 ∨ (s.op = 1#4 ∧ t.err = .ok))

/-! ### Value fields -/

/-- 42_value_fields.md R111, R112: HUM is the big-endian value of its two bytes; of the temperature's raw value, bit 15 is
the sign and bits 14:0 the magnitude where SIGNED = 1, and all of it is the magnitude where SIGNED = 0. -/
def Obligations.LatchedFieldsOfTheBytes : Prop :=
  ∀ (v : ValueBytes) (s : State),
    (latchFields v s).hum.toNat = 256 * v.hHi.toNat + v.hLo.toNat
      ∧ (s.signed = true →
          (latchFields v s).temp.mag.toNat = (256 * v.tHi.toNat + v.tLo.toNat) % 2 ^ 15
            ∧ ((latchFields v s).temp.neg = true ↔ 2 ^ 15 ≤ 256 * v.tHi.toNat + v.tLo.toNat))
      ∧ (s.signed = false →
          (latchFields v s).temp.mag.toNat = 256 * v.tHi.toNat + v.tLo.toNat ∧ (latchFields v s).temp.neg = false)

/-- 42_value_fields.md R113: HUM and TEMP change only in a tick that ends a command with OK, or at Reset. -/
def Obligations.ValuesChangeOnlyOnSuccess : Prop :=
  ∀ (s t : State) (e : Event), applyEvent e s = .next t → e ≠ .reset → (t.hum ≠ s.hum ∨ t.temp ≠ s.temp) →
    (∃ x, e = .tick x) ∧ s.fsm ≠ .idle ∧ t.fsm = .idle ∧ t.done = true ∧ t.err = .ok

/-! ### Errors and whole-machine rules -/

/-- 40_line_commands.md R88, 60_exceptions.md R128: a tick that leaves an error leaves FRAME, HUM, TEMP, BITRES and the
configuration as they were, CALC too unless the command is a check, and the line released. -/
def Obligations.ErrorsLeaveTheResults : Prop :=
  ∀ (s t : State) (x : Level), s.fsm ≠ .idle → tickEvent x s = .next t → t.fsm = .idle → t.err ≠ .ok →
    sameResults s t ∧ sameConfig s t ∧ t.driveLow = false ∧ t.busy = false ∧ t.done = true
      ∧ (s.op ≠ 3#4 → s.op ≠ 4#4 → t.calcValue = s.calcValue)

/-- 20_memory.md R56, 70_reset_and_hazards.md R145: a tick after which the command still runs leaves every result register
as the previous command left it. -/
def Obligations.RunningCommandShowsThePreviousResults : Prop :=
  ∀ (s t : State) (x : Level), tickEvent x s = .next t → t.fsm ≠ .idle →
    sameResults s t ∧ t.calcValue = s.calcValue

/-- 40_line_commands.md R75 and 20_memory.md R48: while a command runs no event but Reset changes CTRL, TIMING0 or TIMING1,
and a host access changes nothing but REJ and what the host has read. -/
def Obligations.RunningCommandKeepsItsOperands : Prop :=
  ∀ (s t : State) (e : Event), s.busy = true → applyEvent e s = .next t → e ≠ .reset →
    sameConfig s t ∧ ((∀ x, e ≠ .tick x) → t = { s with rej := t.rej, reads := t.reads })

/-- 60_exceptions.md R138: only Reset stops a running command; every other event leaves it running, or is a tick that
finishes it (DONE = 1). -/
def Obligations.OnlyResetStopsARunningCommand : Prop :=
  ∀ (s t : State) (e : Event), BlockInv s → s.busy = true → applyEvent e s = .next t → t.busy = false →
    e = .reset ∨ ((∃ x, e = .tick x) ∧ t.done = true ∧ t.fsm = .idle)

/-- From 60_exceptions.md R124: with which error code each command can end, and at which stage a line command can time
out. -/
def Obligations.ErrorsOfEachCommand : Prop :=
  ∀ (s t : State) (i : Instr), BlockInv s → s.op = opcode i → s.fsm ≠ .idle → exec i s = .next t → t.fsm = .idle →
    (t.err = .notInit → (i = .readFrame ∨ i = .readBit) ∧ s.fsm = .accept ∧ s.en = false)
      ∧ (t.err = .invalidArg →
          s.fsm = .accept ∧ s.rsvd = true ∧ ((i = .readFrame ∨ i = .readBit) → s.en = true))
      ∧ (t.err = .invalidResponse → i = .readFrame ∧ s.fsm = .accept ∧ s.line = false)
      ∧ (t.err = .timeout →
          (i = .readFrame ∧ t.stage.isSome = true)
            ∨ (i = .readBit ∧ (t.stage = some .bitLow ∨ t.stage = some .bitHigh)))
      ∧ (t.err = .invalidChecksum → i ≠ .readBit)

/-- 40_line_commands.md R72, R80 to R88: the frame of a READ_FRAME tick. CTRL, TIMING0, TIMING1, REJ, OP, RSVD, BITRES and
FRAME[5..7] are never written; the results are written only where it ends with OK; STATUS.ERR, STAGE, DONE and BUSY only
where it ends. -/
def Obligations.ReadFrameTickFrame : Prop :=
  ∀ (s t : State), exec .readFrame s = .next t →
    sameConfig s t ∧ t.rej = s.rej ∧ t.op = s.op ∧ t.rsvd = s.rsvd ∧ t.bitres = s.bitres
      ∧ t.frame[5] = s.frame[5] ∧ t.frame[6] = s.frame[6] ∧ t.frame[7] = s.frame[7]
      ∧ t.line = s.line ∧ t.inputs = s.inputs ∧ t.envCount = s.envCount ∧ t.reads = s.reads
      ∧ (¬(t.fsm = .idle ∧ t.err = .ok) → sameResults s t ∧ t.calcValue = s.calcValue)
      ∧ (t.fsm ≠ .idle → t.stage = s.stage ∧ t.err = s.err ∧ t.done = s.done ∧ t.busy = s.busy)

/-- 40_line_commands.md R72, R78: the frame of a READ_BIT tick in the states it runs in: CTRL, TIMING0, TIMING1, REJ, OP,
RSVD, FRAME, HUM, TEMP, CALC, SHIFT and the start counter are never written; BITRES and BITCNT only where it ends with OK;
STATUS.ERR, STAGE, DONE and BUSY only where it ends. -/
def Obligations.ReadBitTickFrame : Prop :=
  ∀ (s t : State), exec .readBit s = .next t → s.fsm ≠ .start →
    sameConfig s t ∧ t.rej = s.rej ∧ t.op = s.op ∧ t.rsvd = s.rsvd
      ∧ t.frame = s.frame ∧ t.hum = s.hum ∧ t.temp = s.temp ∧ t.calcValue = s.calcValue
      ∧ t.shift = s.shift ∧ t.scnt = s.scnt
      ∧ t.line = s.line ∧ t.inputs = s.inputs ∧ t.envCount = s.envCount ∧ t.reads = s.reads
      ∧ (¬(t.fsm = .idle ∧ t.err = .ok) → t.bitres = s.bitres ∧ t.bitcnt = s.bitcnt)
      ∧ (t.fsm ≠ .idle → t.stage = s.stage ∧ t.err = s.err ∧ t.done = s.done ∧ t.busy = s.busy)

/-- 10_state.md R40: the open-drain line is low while the block or the sensor pulls it, and else high. -/
def Obligations.PadLineIsOpenDrain : Prop :=
  ∀ (s : State) (sensorPullsLow : Bool),
    (padLevel s sensorPullsLow = false ↔ s.driveLow = true ∨ sensorPullsLow = true)
end

