-- ==== Sys2Proof/Laws/Decode.lean ====
section
/-! SUPPORT. The decoder in terms of the word's number, and the opcode map's two directions. -/

namespace Sys2Proof

/-- The OP field as a number (30_encoding.md R60). -/
theorem opOf_toNat (w : Word) : (opOf w).toNat = w.toNat % 16 := by
  simp [opOf]

/-- The ZERO field as a number (30_encoding.md R60). -/
theorem zeroOf_toNat (w : Word) : (zeroOf w).toNat = w.toNat / 16 := by
  have := w.isLt
  simp only [zeroOf, BitVec.extractLsb'_toNat, Nat.shiftRight_eq_div_pow]
  omega

/-- Whether a reserved bit is set, as a comparison (30_encoding.md R62). -/
theorem reservedBits_iff (w : Word) : reservedBits w = true ↔ 16 ≤ w.toNat := by
  have h : zeroOf w = 0#28 ↔ w.toNat / 16 = 0 := by
    rw [← zeroOf_toNat]
    exact ⟨fun h => by rw [h]; rfl, fun h => BitVec.eq_of_toNat_eq (by rw [h]; rfl)⟩
  simp only [reservedBits, decide_eq_true_eq, ne_eq, h]
  omega

/-- An OP names a command exactly where it is that command's opcode (30_encoding.md R61). -/
theorem commandOf_eq_some (op : BitVec 4) (i : Instr) : commandOf op = some i ↔ op = opcode i := by
  revert op; cases i <;> decide

/-- An OP names no command exactly where it is reserved (30_encoding.md R63). -/
theorem commandOf_eq_none (op : BitVec 4) : commandOf op = none ↔ (op.toNat = 0 ∨ 5 ≤ op.toNat) := by
  revert op; decide

end Sys2Proof
end

