-- ==== Sys2Proof/Laws/State.lean ====
section
/-! SUPPORT. One lemma per field of State and per named update of it: the field's new value, or that it stays. -/

namespace Sys2Proof.Machine

/-! ### `finish` -/

@[simp] theorem finish_en (e : ErrCode) (s : State) : (finish e s).en = s.en := rfl
@[simp] theorem finish_signed (e : ErrCode) (s : State) : (finish e s).signed = s.signed := rfl
@[simp] theorem finish_busy (e : ErrCode) (s : State) : (finish e s).busy = false := rfl
@[simp] theorem finish_done (e : ErrCode) (s : State) : (finish e s).done = true := rfl
@[simp] theorem finish_rej (e : ErrCode) (s : State) : (finish e s).rej = s.rej := rfl
@[simp] theorem finish_err (e : ErrCode) (s : State) : (finish e s).err = e := rfl
@[simp] theorem finish_stage (e : ErrCode) (s : State) : (finish e s).stage = s.stage := rfl
@[simp] theorem finish_bitcnt (e : ErrCode) (s : State) : (finish e s).bitcnt = s.bitcnt := rfl
@[simp] theorem finish_fsm (e : ErrCode) (s : State) : (finish e s).fsm = .idle := rfl
@[simp] theorem finish_tBitLowMax (e : ErrCode) (s : State) : (finish e s).tBitLowMax = s.tBitLowMax := rfl
@[simp] theorem finish_tBitHighMax (e : ErrCode) (s : State) : (finish e s).tBitHighMax = s.tBitHighMax := rfl
@[simp] theorem finish_tOne (e : ErrCode) (s : State) : (finish e s).tOne = s.tOne := rfl
@[simp] theorem finish_startLowMs (e : ErrCode) (s : State) : (finish e s).startLowMs = s.startLowMs := rfl
@[simp] theorem finish_tReleaseMax (e : ErrCode) (s : State) : (finish e s).tReleaseMax = s.tReleaseMax := rfl
@[simp] theorem finish_tRespLowMax (e : ErrCode) (s : State) : (finish e s).tRespLowMax = s.tRespLowMax := rfl
@[simp] theorem finish_tRespHighMax (e : ErrCode) (s : State) : (finish e s).tRespHighMax = s.tRespHighMax := rfl
@[simp] theorem finish_bitres (e : ErrCode) (s : State) : (finish e s).bitres = s.bitres := rfl
@[simp] theorem finish_hum (e : ErrCode) (s : State) : (finish e s).hum = s.hum := rfl
@[simp] theorem finish_temp (e : ErrCode) (s : State) : (finish e s).temp = s.temp := rfl
@[simp] theorem finish_frame (e : ErrCode) (s : State) : (finish e s).frame = s.frame := rfl
@[simp] theorem finish_calcValue (e : ErrCode) (s : State) : (finish e s).calcValue = s.calcValue := rfl
@[simp] theorem finish_shift (e : ErrCode) (s : State) : (finish e s).shift = s.shift := rfl
@[simp] theorem finish_op (e : ErrCode) (s : State) : (finish e s).op = s.op := rfl
@[simp] theorem finish_rsvd (e : ErrCode) (s : State) : (finish e s).rsvd = s.rsvd := rfl
@[simp] theorem finish_pcnt (e : ErrCode) (s : State) : (finish e s).pcnt = s.pcnt := rfl
@[simp] theorem finish_scnt (e : ErrCode) (s : State) : (finish e s).scnt = s.scnt := rfl
@[simp] theorem finish_lowcnt (e : ErrCode) (s : State) : (finish e s).lowcnt = s.lowcnt := rfl
@[simp] theorem finish_driveLow (e : ErrCode) (s : State) : (finish e s).driveLow = false := rfl
@[simp] theorem finish_line (e : ErrCode) (s : State) : (finish e s).line = s.line := rfl
@[simp] theorem finish_inputs (e : ErrCode) (s : State) : (finish e s).inputs = s.inputs := rfl
@[simp] theorem finish_envCount (e : ErrCode) (s : State) : (finish e s).envCount = s.envCount := rfl
@[simp] theorem finish_reads (e : ErrCode) (s : State) : (finish e s).reads = s.reads := rfl

/-! ### `timeout` -/

@[simp] theorem timeout_en (w : Phase) (s : State) : (timeout w s).en = s.en := rfl
@[simp] theorem timeout_signed (w : Phase) (s : State) : (timeout w s).signed = s.signed := rfl
@[simp] theorem timeout_busy (w : Phase) (s : State) : (timeout w s).busy = false := rfl
@[simp] theorem timeout_done (w : Phase) (s : State) : (timeout w s).done = true := rfl
@[simp] theorem timeout_rej (w : Phase) (s : State) : (timeout w s).rej = s.rej := rfl
@[simp] theorem timeout_err (w : Phase) (s : State) : (timeout w s).err = .timeout := rfl
@[simp] theorem timeout_stage (w : Phase) (s : State) : (timeout w s).stage = some w := rfl
@[simp] theorem timeout_bitcnt (w : Phase) (s : State) : (timeout w s).bitcnt = s.bitcnt := rfl
@[simp] theorem timeout_fsm (w : Phase) (s : State) : (timeout w s).fsm = .idle := rfl
@[simp] theorem timeout_tBitLowMax (w : Phase) (s : State) : (timeout w s).tBitLowMax = s.tBitLowMax := rfl
@[simp] theorem timeout_tBitHighMax (w : Phase) (s : State) : (timeout w s).tBitHighMax = s.tBitHighMax := rfl
@[simp] theorem timeout_tOne (w : Phase) (s : State) : (timeout w s).tOne = s.tOne := rfl
@[simp] theorem timeout_startLowMs (w : Phase) (s : State) : (timeout w s).startLowMs = s.startLowMs := rfl
@[simp] theorem timeout_tReleaseMax (w : Phase) (s : State) : (timeout w s).tReleaseMax = s.tReleaseMax := rfl
@[simp] theorem timeout_tRespLowMax (w : Phase) (s : State) : (timeout w s).tRespLowMax = s.tRespLowMax := rfl
@[simp] theorem timeout_tRespHighMax (w : Phase) (s : State) : (timeout w s).tRespHighMax = s.tRespHighMax := rfl
@[simp] theorem timeout_bitres (w : Phase) (s : State) : (timeout w s).bitres = s.bitres := rfl
@[simp] theorem timeout_hum (w : Phase) (s : State) : (timeout w s).hum = s.hum := rfl
@[simp] theorem timeout_temp (w : Phase) (s : State) : (timeout w s).temp = s.temp := rfl
@[simp] theorem timeout_frame (w : Phase) (s : State) : (timeout w s).frame = s.frame := rfl
@[simp] theorem timeout_calcValue (w : Phase) (s : State) : (timeout w s).calcValue = s.calcValue := rfl
@[simp] theorem timeout_shift (w : Phase) (s : State) : (timeout w s).shift = s.shift := rfl
@[simp] theorem timeout_op (w : Phase) (s : State) : (timeout w s).op = s.op := rfl
@[simp] theorem timeout_rsvd (w : Phase) (s : State) : (timeout w s).rsvd = s.rsvd := rfl
@[simp] theorem timeout_pcnt (w : Phase) (s : State) : (timeout w s).pcnt = s.pcnt := rfl
@[simp] theorem timeout_scnt (w : Phase) (s : State) : (timeout w s).scnt = s.scnt := rfl
@[simp] theorem timeout_lowcnt (w : Phase) (s : State) : (timeout w s).lowcnt = s.lowcnt := rfl
@[simp] theorem timeout_driveLow (w : Phase) (s : State) : (timeout w s).driveLow = false := rfl
@[simp] theorem timeout_line (w : Phase) (s : State) : (timeout w s).line = s.line := rfl
@[simp] theorem timeout_inputs (w : Phase) (s : State) : (timeout w s).inputs = s.inputs := rfl
@[simp] theorem timeout_envCount (w : Phase) (s : State) : (timeout w s).envCount = s.envCount := rfl
@[simp] theorem timeout_reads (w : Phase) (s : State) : (timeout w s).reads = s.reads := rfl

/-! ### `acceptWord` -/

@[simp] theorem acceptWord_en (v : Word) (s : State) : (acceptWord v s).en = s.en := rfl
@[simp] theorem acceptWord_signed (v : Word) (s : State) : (acceptWord v s).signed = s.signed := rfl
@[simp] theorem acceptWord_busy (v : Word) (s : State) : (acceptWord v s).busy = true := rfl
@[simp] theorem acceptWord_done (v : Word) (s : State) : (acceptWord v s).done = false := rfl
@[simp] theorem acceptWord_rej (v : Word) (s : State) : (acceptWord v s).rej = false := rfl
@[simp] theorem acceptWord_err (v : Word) (s : State) : (acceptWord v s).err = .ok := rfl
@[simp] theorem acceptWord_stage (v : Word) (s : State) : (acceptWord v s).stage = none := rfl
@[simp] theorem acceptWord_bitcnt (v : Word) (s : State) : (acceptWord v s).bitcnt = 0#6 := rfl
@[simp] theorem acceptWord_fsm (v : Word) (s : State) : (acceptWord v s).fsm = .accept := rfl
@[simp] theorem acceptWord_tBitLowMax (v : Word) (s : State) : (acceptWord v s).tBitLowMax = s.tBitLowMax := rfl
@[simp] theorem acceptWord_tBitHighMax (v : Word) (s : State) : (acceptWord v s).tBitHighMax = s.tBitHighMax := rfl
@[simp] theorem acceptWord_tOne (v : Word) (s : State) : (acceptWord v s).tOne = s.tOne := rfl
@[simp] theorem acceptWord_startLowMs (v : Word) (s : State) : (acceptWord v s).startLowMs = s.startLowMs := rfl
@[simp] theorem acceptWord_tReleaseMax (v : Word) (s : State) : (acceptWord v s).tReleaseMax = s.tReleaseMax := rfl
@[simp] theorem acceptWord_tRespLowMax (v : Word) (s : State) : (acceptWord v s).tRespLowMax = s.tRespLowMax := rfl
@[simp] theorem acceptWord_tRespHighMax (v : Word) (s : State) : (acceptWord v s).tRespHighMax = s.tRespHighMax := rfl
@[simp] theorem acceptWord_bitres (v : Word) (s : State) : (acceptWord v s).bitres = s.bitres := rfl
@[simp] theorem acceptWord_hum (v : Word) (s : State) : (acceptWord v s).hum = s.hum := rfl
@[simp] theorem acceptWord_temp (v : Word) (s : State) : (acceptWord v s).temp = s.temp := rfl
@[simp] theorem acceptWord_frame (v : Word) (s : State) : (acceptWord v s).frame = s.frame := rfl
@[simp] theorem acceptWord_calcValue (v : Word) (s : State) : (acceptWord v s).calcValue = s.calcValue := rfl
@[simp] theorem acceptWord_shift (v : Word) (s : State) : (acceptWord v s).shift = s.shift := rfl
@[simp] theorem acceptWord_op (v : Word) (s : State) : (acceptWord v s).op = opOf v := rfl
@[simp] theorem acceptWord_rsvd (v : Word) (s : State) : (acceptWord v s).rsvd = reservedBits v := rfl
@[simp] theorem acceptWord_pcnt (v : Word) (s : State) : (acceptWord v s).pcnt = s.pcnt := rfl
@[simp] theorem acceptWord_scnt (v : Word) (s : State) : (acceptWord v s).scnt = s.scnt := rfl
@[simp] theorem acceptWord_lowcnt (v : Word) (s : State) : (acceptWord v s).lowcnt = s.lowcnt := rfl
@[simp] theorem acceptWord_driveLow (v : Word) (s : State) : (acceptWord v s).driveLow = s.driveLow := rfl
@[simp] theorem acceptWord_line (v : Word) (s : State) : (acceptWord v s).line = s.line := rfl
@[simp] theorem acceptWord_inputs (v : Word) (s : State) : (acceptWord v s).inputs = s.inputs := rfl
@[simp] theorem acceptWord_envCount (v : Word) (s : State) : (acceptWord v s).envCount = s.envCount := rfl
@[simp] theorem acceptWord_reads (v : Word) (s : State) : (acceptWord v s).reads = s.reads := rfl

/-! ### `dropWrite` -/

@[simp] theorem dropWrite_en (s : State) : (dropWrite s).en = s.en := rfl
@[simp] theorem dropWrite_signed (s : State) : (dropWrite s).signed = s.signed := rfl
@[simp] theorem dropWrite_busy (s : State) : (dropWrite s).busy = s.busy := rfl
@[simp] theorem dropWrite_done (s : State) : (dropWrite s).done = s.done := rfl
@[simp] theorem dropWrite_rej (s : State) : (dropWrite s).rej = true := rfl
@[simp] theorem dropWrite_err (s : State) : (dropWrite s).err = s.err := rfl
@[simp] theorem dropWrite_stage (s : State) : (dropWrite s).stage = s.stage := rfl
@[simp] theorem dropWrite_bitcnt (s : State) : (dropWrite s).bitcnt = s.bitcnt := rfl
@[simp] theorem dropWrite_fsm (s : State) : (dropWrite s).fsm = s.fsm := rfl
@[simp] theorem dropWrite_tBitLowMax (s : State) : (dropWrite s).tBitLowMax = s.tBitLowMax := rfl
@[simp] theorem dropWrite_tBitHighMax (s : State) : (dropWrite s).tBitHighMax = s.tBitHighMax := rfl
@[simp] theorem dropWrite_tOne (s : State) : (dropWrite s).tOne = s.tOne := rfl
@[simp] theorem dropWrite_startLowMs (s : State) : (dropWrite s).startLowMs = s.startLowMs := rfl
@[simp] theorem dropWrite_tReleaseMax (s : State) : (dropWrite s).tReleaseMax = s.tReleaseMax := rfl
@[simp] theorem dropWrite_tRespLowMax (s : State) : (dropWrite s).tRespLowMax = s.tRespLowMax := rfl
@[simp] theorem dropWrite_tRespHighMax (s : State) : (dropWrite s).tRespHighMax = s.tRespHighMax := rfl
@[simp] theorem dropWrite_bitres (s : State) : (dropWrite s).bitres = s.bitres := rfl
@[simp] theorem dropWrite_hum (s : State) : (dropWrite s).hum = s.hum := rfl
@[simp] theorem dropWrite_temp (s : State) : (dropWrite s).temp = s.temp := rfl
@[simp] theorem dropWrite_frame (s : State) : (dropWrite s).frame = s.frame := rfl
@[simp] theorem dropWrite_calcValue (s : State) : (dropWrite s).calcValue = s.calcValue := rfl
@[simp] theorem dropWrite_shift (s : State) : (dropWrite s).shift = s.shift := rfl
@[simp] theorem dropWrite_op (s : State) : (dropWrite s).op = s.op := rfl
@[simp] theorem dropWrite_rsvd (s : State) : (dropWrite s).rsvd = s.rsvd := rfl
@[simp] theorem dropWrite_pcnt (s : State) : (dropWrite s).pcnt = s.pcnt := rfl
@[simp] theorem dropWrite_scnt (s : State) : (dropWrite s).scnt = s.scnt := rfl
@[simp] theorem dropWrite_lowcnt (s : State) : (dropWrite s).lowcnt = s.lowcnt := rfl
@[simp] theorem dropWrite_driveLow (s : State) : (dropWrite s).driveLow = s.driveLow := rfl
@[simp] theorem dropWrite_line (s : State) : (dropWrite s).line = s.line := rfl
@[simp] theorem dropWrite_inputs (s : State) : (dropWrite s).inputs = s.inputs := rfl
@[simp] theorem dropWrite_envCount (s : State) : (dropWrite s).envCount = s.envCount := rfl
@[simp] theorem dropWrite_reads (s : State) : (dropWrite s).reads = s.reads := rfl

/-! ### `latchFields` -/

@[simp] theorem latchFields_en (v : ValueBytes) (s : State) : (latchFields v s).en = s.en := rfl
@[simp] theorem latchFields_signed (v : ValueBytes) (s : State) : (latchFields v s).signed = s.signed := rfl
@[simp] theorem latchFields_busy (v : ValueBytes) (s : State) : (latchFields v s).busy = s.busy := rfl
@[simp] theorem latchFields_done (v : ValueBytes) (s : State) : (latchFields v s).done = s.done := rfl
@[simp] theorem latchFields_rej (v : ValueBytes) (s : State) : (latchFields v s).rej = s.rej := rfl
@[simp] theorem latchFields_err (v : ValueBytes) (s : State) : (latchFields v s).err = s.err := rfl
@[simp] theorem latchFields_stage (v : ValueBytes) (s : State) : (latchFields v s).stage = s.stage := rfl
@[simp] theorem latchFields_bitcnt (v : ValueBytes) (s : State) : (latchFields v s).bitcnt = s.bitcnt := rfl
@[simp] theorem latchFields_fsm (v : ValueBytes) (s : State) : (latchFields v s).fsm = s.fsm := rfl
@[simp] theorem latchFields_tBitLowMax (v : ValueBytes) (s : State) : (latchFields v s).tBitLowMax = s.tBitLowMax := rfl
@[simp] theorem latchFields_tBitHighMax (v : ValueBytes) (s : State) : (latchFields v s).tBitHighMax = s.tBitHighMax := rfl
@[simp] theorem latchFields_tOne (v : ValueBytes) (s : State) : (latchFields v s).tOne = s.tOne := rfl
@[simp] theorem latchFields_startLowMs (v : ValueBytes) (s : State) : (latchFields v s).startLowMs = s.startLowMs := rfl
@[simp] theorem latchFields_tReleaseMax (v : ValueBytes) (s : State) : (latchFields v s).tReleaseMax = s.tReleaseMax := rfl
@[simp] theorem latchFields_tRespLowMax (v : ValueBytes) (s : State) : (latchFields v s).tRespLowMax = s.tRespLowMax := rfl
@[simp] theorem latchFields_tRespHighMax (v : ValueBytes) (s : State) : (latchFields v s).tRespHighMax = s.tRespHighMax := rfl
@[simp] theorem latchFields_bitres (v : ValueBytes) (s : State) : (latchFields v s).bitres = s.bitres := rfl
@[simp] theorem latchFields_hum (v : ValueBytes) (s : State) : (latchFields v s).hum = humidityOf v := rfl
@[simp] theorem latchFields_temp (v : ValueBytes) (s : State) : (latchFields v s).temp = temperatureOf s.signed v := rfl
@[simp] theorem latchFields_frame (v : ValueBytes) (s : State) : (latchFields v s).frame = s.frame := rfl
@[simp] theorem latchFields_calcValue (v : ValueBytes) (s : State) : (latchFields v s).calcValue = s.calcValue := rfl
@[simp] theorem latchFields_shift (v : ValueBytes) (s : State) : (latchFields v s).shift = s.shift := rfl
@[simp] theorem latchFields_op (v : ValueBytes) (s : State) : (latchFields v s).op = s.op := rfl
@[simp] theorem latchFields_rsvd (v : ValueBytes) (s : State) : (latchFields v s).rsvd = s.rsvd := rfl
@[simp] theorem latchFields_pcnt (v : ValueBytes) (s : State) : (latchFields v s).pcnt = s.pcnt := rfl
@[simp] theorem latchFields_scnt (v : ValueBytes) (s : State) : (latchFields v s).scnt = s.scnt := rfl
@[simp] theorem latchFields_lowcnt (v : ValueBytes) (s : State) : (latchFields v s).lowcnt = s.lowcnt := rfl
@[simp] theorem latchFields_driveLow (v : ValueBytes) (s : State) : (latchFields v s).driveLow = s.driveLow := rfl
@[simp] theorem latchFields_line (v : ValueBytes) (s : State) : (latchFields v s).line = s.line := rfl
@[simp] theorem latchFields_inputs (v : ValueBytes) (s : State) : (latchFields v s).inputs = s.inputs := rfl
@[simp] theorem latchFields_envCount (v : ValueBytes) (s : State) : (latchFields v s).envCount = s.envCount := rfl
@[simp] theorem latchFields_reads (v : ValueBytes) (s : State) : (latchFields v s).reads = s.reads := rfl

/-! ### `shiftIn` -/

@[simp] theorem shiftIn_en (b : Bool) (s : State) : (shiftIn b s).en = s.en := rfl
@[simp] theorem shiftIn_signed (b : Bool) (s : State) : (shiftIn b s).signed = s.signed := rfl
@[simp] theorem shiftIn_busy (b : Bool) (s : State) : (shiftIn b s).busy = s.busy := rfl
@[simp] theorem shiftIn_done (b : Bool) (s : State) : (shiftIn b s).done = s.done := rfl
@[simp] theorem shiftIn_rej (b : Bool) (s : State) : (shiftIn b s).rej = s.rej := rfl
@[simp] theorem shiftIn_err (b : Bool) (s : State) : (shiftIn b s).err = s.err := rfl
@[simp] theorem shiftIn_stage (b : Bool) (s : State) : (shiftIn b s).stage = s.stage := rfl
@[simp] theorem shiftIn_bitcnt (b : Bool) (s : State) : (shiftIn b s).bitcnt = s.bitcnt + 1#6 := rfl
@[simp] theorem shiftIn_fsm (b : Bool) (s : State) : (shiftIn b s).fsm = s.fsm := rfl
@[simp] theorem shiftIn_tBitLowMax (b : Bool) (s : State) : (shiftIn b s).tBitLowMax = s.tBitLowMax := rfl
@[simp] theorem shiftIn_tBitHighMax (b : Bool) (s : State) : (shiftIn b s).tBitHighMax = s.tBitHighMax := rfl
@[simp] theorem shiftIn_tOne (b : Bool) (s : State) : (shiftIn b s).tOne = s.tOne := rfl
@[simp] theorem shiftIn_startLowMs (b : Bool) (s : State) : (shiftIn b s).startLowMs = s.startLowMs := rfl
@[simp] theorem shiftIn_tReleaseMax (b : Bool) (s : State) : (shiftIn b s).tReleaseMax = s.tReleaseMax := rfl
@[simp] theorem shiftIn_tRespLowMax (b : Bool) (s : State) : (shiftIn b s).tRespLowMax = s.tRespLowMax := rfl
@[simp] theorem shiftIn_tRespHighMax (b : Bool) (s : State) : (shiftIn b s).tRespHighMax = s.tRespHighMax := rfl
@[simp] theorem shiftIn_bitres (b : Bool) (s : State) : (shiftIn b s).bitres = s.bitres := rfl
@[simp] theorem shiftIn_hum (b : Bool) (s : State) : (shiftIn b s).hum = s.hum := rfl
@[simp] theorem shiftIn_temp (b : Bool) (s : State) : (shiftIn b s).temp = s.temp := rfl
@[simp] theorem shiftIn_frame (b : Bool) (s : State) : (shiftIn b s).frame = s.frame := rfl
@[simp] theorem shiftIn_calcValue (b : Bool) (s : State) : (shiftIn b s).calcValue = s.calcValue := rfl
@[simp] theorem shiftIn_shift (b : Bool) (s : State) : (shiftIn b s).shift = (s.shift <<< 1) ||| (BitVec.ofBool b).setWidth 40 := rfl
@[simp] theorem shiftIn_op (b : Bool) (s : State) : (shiftIn b s).op = s.op := rfl
@[simp] theorem shiftIn_rsvd (b : Bool) (s : State) : (shiftIn b s).rsvd = s.rsvd := rfl
@[simp] theorem shiftIn_pcnt (b : Bool) (s : State) : (shiftIn b s).pcnt = s.pcnt := rfl
@[simp] theorem shiftIn_scnt (b : Bool) (s : State) : (shiftIn b s).scnt = s.scnt := rfl
@[simp] theorem shiftIn_lowcnt (b : Bool) (s : State) : (shiftIn b s).lowcnt = s.lowcnt := rfl
@[simp] theorem shiftIn_driveLow (b : Bool) (s : State) : (shiftIn b s).driveLow = s.driveLow := rfl
@[simp] theorem shiftIn_line (b : Bool) (s : State) : (shiftIn b s).line = s.line := rfl
@[simp] theorem shiftIn_inputs (b : Bool) (s : State) : (shiftIn b s).inputs = s.inputs := rfl
@[simp] theorem shiftIn_envCount (b : Bool) (s : State) : (shiftIn b s).envCount = s.envCount := rfl
@[simp] theorem shiftIn_reads (b : Bool) (s : State) : (shiftIn b s).reads = s.reads := rfl

/-- The limit of a phase depends on the timing registers only. -/
theorem limit_congr {s t : State} (w : Phase)
    (h1 : t.tReleaseMax = s.tReleaseMax) (h2 : t.tRespLowMax = s.tRespLowMax) (h3 : t.tRespHighMax = s.tRespHighMax)
    (h4 : t.tBitLowMax = s.tBitLowMax) (h5 : t.tBitHighMax = s.tBitHighMax) : limit w t = limit w s := by
  cases w <;> simp [limit, h1, h2, h3, h4, h5]

end Sys2Proof.Machine
end

