-- ==== Sys2Proof/Laws/Ops.lean ====
section
/-! SUPPORT. What the shared operations can do, said once: the timed wait, the ACCEPT checks, and every move of a tick. -/

namespace Sys2Proof.Machine

/-! ### The timed wait -/

/-- A counted sample that stays within the limit. -/
theorem dwell_within {w : Phase} {s : State} (h : (s.pcnt + 1#9).toNat ≤ (limit w s).toNat) :
    dwell w s = { s with pcnt := s.pcnt + 1#9 } := by
  have e : limit w { s with pcnt := s.pcnt + 1#9 } = limit w s := limit_congr w rfl rfl rfl rfl rfl
  simp only [dwell, e]
  exact if_neg (by omega)

/-- A counted sample that passes the limit. -/
theorem dwell_past {w : Phase} {s : State} (h : (limit w s).toNat < (s.pcnt + 1#9).toNat) :
    dwell w s = timeout w { s with pcnt := s.pcnt + 1#9 } := by
  have e : limit w { s with pcnt := s.pcnt + 1#9 } = limit w s := limit_congr w rfl rfl rfl rfl rfl
  simp only [dwell, e]
  exact if_pos h

/-- All a counted sample can do. -/
theorem dwell_cases (w : Phase) (s : State) :
    ((s.pcnt + 1#9).toNat ≤ (limit w s).toNat ∧ dwell w s = { s with pcnt := s.pcnt + 1#9 })
      ∨ ((limit w s).toNat < (s.pcnt + 1#9).toNat ∧ dwell w s = timeout w { s with pcnt := s.pcnt + 1#9 }) := by
  rcases Nat.lt_or_ge (limit w s).toNat (s.pcnt + 1#9).toNat with h | h
  · exact .inr ⟨h, dwell_past h⟩
  · exact .inl ⟨h, dwell_within h⟩

/-- All that entering a phase with count 0 can do. -/
theorem enterPhase_cases {w : Phase} {s : State} (h0 : s.pcnt = 0#9) :
    (1 ≤ (limit w s).toNat ∧ enterPhase w s = { s with fsm := .wait w, pcnt := 1#9 })
      ∨ (limit w s = 0#8 ∧ enterPhase w s = timeout w { s with fsm := .wait w, pcnt := 1#9 }) := by
  have e : limit w { s with fsm := .wait w } = limit w s := limit_congr w rfl rfl rfl rfl rfl
  have p : s.pcnt + 1#9 = 1#9 := by rw [h0]; rfl
  rcases dwell_cases w { s with fsm := .wait w } with ⟨h, hd⟩ | ⟨h, hd⟩
  · rw [e, p] at h
    exact .inl ⟨h, by simp only [enterPhase, hd, p]⟩
  · rw [e, p] at h
    exact .inr ⟨by apply BitVec.eq_of_toNat_eq; simp at h ⊢; omega, by simp only [enterPhase, hd, p]⟩

theorem phaseTick_at {w : Phase} {f : BitVec 9 → State → Result} {s : State} (h : s.line = level w) :
    phaseTick w f s = .next (dwell w s) := by simp [phaseTick, h]

theorem phaseTick_off {w : Phase} {f : BitVec 9 → State → Result} {s : State} (h : s.line ≠ level w) :
    phaseTick w f s = exitPhase w f s := by simp [phaseTick, h]

/-- The levels of a phase and of the one it ends into differ, so the entering sample is at its level (R77). -/
theorem phaseTick_entered {w : Phase} {f : BitVec 9 → State → Result} {s : State} (h : s.line = level w) :
    phaseTick w f { s with fsm := .wait w } = .next (enterPhase w s) :=
  phaseTick_at h

/-! ### The tick rule by state -/

theorem fsmTick_idle {a : State → Result} {f : BitVec 9 → State → Result} {s : State} (h : s.fsm = .idle) :
    fsmTick a f s = .next s := by simp [fsmTick, h]

theorem fsmTick_accept {a : State → Result} {f : BitVec 9 → State → Result} {s : State} (h : s.fsm = .accept) :
    fsmTick a f s = a s := by simp [fsmTick, h]

theorem fsmTick_start {a : State → Result} {f : BitVec 9 → State → Result} {s : State} (h : s.fsm = .start) :
    fsmTick a f s = .next (startTick s) := by simp [fsmTick, h]

theorem fsmTick_wait {a : State → Result} {f : BitVec 9 → State → Result} {s : State} {w : Phase}
    (h : s.fsm = .wait w) : fsmTick a f s = phaseTick w f s := by simp [fsmTick, h]

theorem acceptCommand_notInit {a : State → Result} {s : State} (h : s.en = false) :
    acceptCommand true a s = .next (finish .notInit s) := by simp [acceptCommand, h]

theorem acceptCommand_invalidArg {l : Bool} {a : State → Result} {s : State} (h : l = true → s.en = true)
    (hr : s.rsvd = true) : acceptCommand l a s = .next (finish .invalidArg s) := by
  cases l <;> simp_all [acceptCommand]

theorem acceptCommand_starts {l : Bool} {a : State → Result} {s : State} (h : l = true → s.en = true)
    (hr : s.rsvd = false) : acceptCommand l a s = a s := by
  cases l <;> simp_all [acceptCommand]

/-- All a START tick can do. -/
theorem startTick_cases (s : State) :
    ((s.scnt + 1#18).toNat ≠ startTicks s ∧ startTick s = { s with scnt := s.scnt + 1#18 })
      ∨ ((s.scnt + 1#18).toNat = startTicks s
        ∧ startTick s
          = { s with scnt := s.scnt + 1#18, driveLow := false, pcnt := 0#9, fsm := .wait .waitRelease }) := by
  by_cases h : (s.scnt + 1#18).toNat = startTicks s
  · exact .inr ⟨h, by simp only [startTick]; exact if_pos h⟩
  · exact .inl ⟨h, by simp only [startTick]; exact if_neg h⟩

/-! ### Every move of a tick -/

/-- The phase a handshake phase ends into (40_line_commands.md R75). -/
def afterHandshake : Phase → Option Phase
  | .waitRelease => some .respLow
  | .respLow     => some .respHigh
  | .respHigh    => some .bitLow
  | .bitLow      => none
  | .bitHigh     => none

/-- Everything a tick of the command `c` (none for a reserved OP) can do to the state `s`. -/
inductive Move (c : Option Instr) (s : State) : State → Prop where
  | idle : s.fsm = .idle → Move c s s
  | notInit : s.fsm = .accept → (c = some .readFrame ∨ c = some .readBit) → s.en = false →
      Move c s (finish .notInit s)
  | invalidArg : s.fsm = .accept → (c = none ∨ s.rsvd = true) →
      (c = some .readFrame ∨ c = some .readBit → s.en = true) → Move c s (finish .invalidArg s)
  | invalidResponse : s.fsm = .accept → c = some .readFrame → s.en = true → s.rsvd = false → s.line = false →
      Move c s (finish .invalidResponse s)
  | startPulse : s.fsm = .accept → c = some .readFrame → s.en = true → s.rsvd = false → s.line = true →
      s.startLowMs ≠ 0#8 →
      Move c s { s with shift := 0#40, pcnt := 0#9, scnt := 0#18, driveLow := true, fsm := .start }
  | noPulse : s.fsm = .accept → c = some .readFrame → s.en = true → s.rsvd = false → s.line = true →
      s.startLowMs = 0#8 →
      Move c s { s with shift := 0#40, pcnt := 0#9, scnt := 0#18, fsm := .wait .waitRelease }
  | sum8 : s.fsm = .accept → c = some .checkSum8 → s.rsvd = false → Move c s (checkSum8 s)
  | crc16 : s.fsm = .accept → c = some .checkCrc16 → s.rsvd = false → Move c s (checkCrc16 s)
  | start : s.fsm = .start → Move c s (startTick s)
  | dwell (w : Phase) : s.fsm = .wait w → s.line = level w → Move c s (dwell w s)
  | bitStart (w : Phase) : s.fsm = .accept → c = some .readBit → s.en = true → s.rsvd = false → s.line = level w →
      (w = .bitLow ∨ w = .bitHigh) → Move c s (enterPhase w { s with pcnt := 0#9, lowcnt := 0#8 })
  | handshake (w n : Phase) : s.fsm = .wait w → s.line ≠ level w → afterHandshake w = some n →
      Move c s (enterPhase n { s with pcnt := 0#9 })
  | lowEnds : s.fsm = .wait .bitLow → s.line = true →
      Move c s (enterPhase .bitHigh { s with pcnt := 0#9, lowcnt := s.pcnt.setWidth 8 })
  | bitRead : s.fsm = .wait .bitHigh → c = some .readBit → s.line = false →
      Move c s
        (finish .ok
          { s with
            pcnt := 0#9
            bitres := { value := bitValue s.pcnt s, lowcnt := s.lowcnt, highcnt := s.pcnt.setWidth 8 }
            bitcnt := 1#6 })
  | bitShifted : s.fsm = .wait .bitHigh → c = some .readFrame → s.line = false →
      (s.bitcnt + 1#6).toNat ≠ Config.frameBits →
      Move c s (enterPhase .bitLow (shiftIn (bitValue s.pcnt s) { s with pcnt := 0#9 }))
  | frameEnds : s.fsm = .wait .bitHigh → c = some .readFrame → s.line = false →
      (s.bitcnt + 1#6).toNat = Config.frameBits →
      Move c s (frameDone (shiftIn (bitValue s.pcnt s) { s with pcnt := 0#9 }))

/-- The moves every command shares: IDLE, START, and a phase but for the end of a bit. -/
theorem fsmTick_move {c : Option Instr} {a : State → Result} {f : BitVec 9 → State → Result} {s t : State}
    (ha : s.fsm = .accept → a s = .next t → Move c s t)
    (hf : s.fsm = .wait .bitHigh → s.line = false → f s.pcnt { s with pcnt := 0#9 } = .next t → Move c s t)
    (h : fsmTick a f s = .next t) : Move c s t := by
  unfold fsmTick at h
  split at h
  · next e => cases h; exact .idle e
  · next e => exact ha e h
  · next e => cases h; exact .start e
  · next w e =>
    by_cases hl : s.line = level w
    · rw [phaseTick_at hl] at h
      cases h
      exact .dwell w e hl
    · rw [phaseTick_off hl] at h
      cases w with
      | waitRelease => cases h; exact .handshake _ _ e hl rfl
      | respLow => cases h; exact .handshake _ _ e hl rfl
      | respHigh => cases h; exact .handshake _ _ e hl rfl
      | bitLow => cases h; exact .lowEnds e (by simpa [level] using hl)
      | bitHigh => exact hf e (by simpa [level] using hl) h

theorem readBitAccept_move {s t : State} (e : s.fsm = .accept) (he : s.en = true) (hr : s.rsvd = false)
    (h : readBitAccept s = .next t) : Move (some .readBit) s t := by
  unfold readBitAccept at h
  cases hl : s.line
  · rw [phaseTick_at (by simp [level, hl])] at h
    cases h
    exact .bitStart .bitLow e rfl he hr (by simp [level, hl]) (.inl rfl)
  · rw [phaseTick_off (by simp [level, hl])] at h
    cases h
    exact .bitStart .bitHigh e rfl he hr (by simp [level, hl]) (.inr rfl)

theorem readFrameAccept_move {s t : State} (e : s.fsm = .accept) (he : s.en = true) (hr : s.rsvd = false)
    (h : readFrameAccept s = .next t) : Move (some .readFrame) s t := by
  unfold readFrameAccept at h
  split at h
  · next hl => cases h; exact .invalidResponse e rfl he hr hl
  · next hl =>
    have hl : s.line = true := by simpa using hl
    simp only at h
    split at h
    · next h0 => cases h; exact .noPulse e rfl he hr hl h0
    · next h0 => cases h; exact .startPulse e rfl he hr hl h0

/-- Every next state of a command's tick is one of the moves. -/
theorem exec_move {i : Instr} {s t : State} (h : exec i s = .next t) : Move (some i) s t := by
  cases i with
  | readFrame =>
    refine fsmTick_move (fun e h => ?_) (fun e hl h => ?_) h
    · unfold acceptCommand at h
      split at h
      · next g => cases h; exact .notInit e (.inl rfl) (by simpa using g)
      · next g =>
        have g : s.en = true := by simpa using g
        split at h
        · next r => cases h; exact .invalidArg e (.inr r) fun _ => g
        · next r => exact readFrameAccept_move e g (by simpa using r) h
    · unfold readFrameBitDone at h
      simp only at h
      split at h
      · next n => cases h; exact .frameEnds e rfl hl n
      · next n => cases h; exact .bitShifted e rfl hl n
  | readBit =>
    refine fsmTick_move (fun e h => ?_) (fun e hl h => ?_) h
    · unfold acceptCommand at h
      split at h
      · next g => cases h; exact .notInit e (.inr rfl) (by simpa using g)
      · next g =>
        have g : s.en = true := by simpa using g
        split at h
        · next r => cases h; exact .invalidArg e (.inr r) fun _ => g
        · next r => exact readBitAccept_move e g (by simpa using r) h
    · cases h; exact .bitRead e rfl hl
  | checkSum8 =>
    refine fsmTick_move (fun e h => ?_) (fun _ _ h => by cases h) h
    unfold acceptCommand at h
    split at h
    · next g => simp at g
    · split at h
      · next r => cases h; exact .invalidArg e (.inr r) (by simp)
      · next r => cases h; exact .sum8 e rfl (by simpa using r)
  | checkCrc16 =>
    refine fsmTick_move (fun e h => ?_) (fun _ _ h => by cases h) h
    unfold acceptCommand at h
    split at h
    · next g => simp at g
    · split at h
      · next r => cases h; exact .invalidArg e (.inr r) (by simp)
      · next r => cases h; exact .crc16 e rfl (by simpa using r)

/-- Every next state of a reserved OP's tick is one of the moves. -/
theorem reservedOpTick_move {s t : State} (h : reservedOpTick s = .next t) : Move none s t :=
  fsmTick_move (fun e h => by cases h; exact .invalidArg e (.inl rfl) (by simp)) (fun _ _ h => by cases h) h

/-- Every next state of a tick is one of the moves of the command in the latch. -/
theorem runTick_move {s t : State} (h : runTick s = .next t) : Move (commandOf s.op) s t := by
  unfold runTick at h
  split at h
  · next i e => rw [e]; exact exec_move h
  · next e => rw [e]; exact reservedOpTick_move h

end Sys2Proof.Machine
end

