-- ==== Sys2Proof/Laws/Host.lean ====
section
/-! SUPPORT. The register interface: the map is one to one, and all a write can do. -/

namespace Sys2Proof.Machine

/-- Every register is found at its offset (10_state.md R23). -/
theorem regAt_regOffset (r : Reg) : regAt (regOffset r) = some r := by
  cases r with
  | frame k => revert k; decide
  | _ => rfl

/-- The offsets from 0x44 on are unmapped (10_state.md R23). -/
theorem regAt_unmapped {off : Offset} (h : 0x44 ≤ off.toNat) : regAt off = none := by
  unfold regAt
  split <;> first | rfl | omega

/-- All a register write can do to the machine. -/
theorem writeReg_cases (r : Reg) (v : Word) (s : State) :
    (s.busy = true ∧ droppable r = true ∧ writeReg r v s = dropWrite s)
      ∨ (droppable r = false ∧ writeReg r v s = s)
      ∨ (s.busy = false ∧ r = .cmd ∧ writeReg r v s = acceptWord v s)
      ∨ (s.busy = false ∧ r = .ctrl ∧ writeReg r v s = writeCtrl v s)
      ∨ (s.busy = false ∧ r = .timing0 ∧ writeReg r v s = writeTiming0 v s)
      ∨ (s.busy = false ∧ r = .timing1 ∧ writeReg r v s = writeTiming1 v s)
      ∨ (s.busy = false ∧ ∃ k, r = .frame k ∧ writeReg r v s = writeFrame k v s) := by
  cases hb : s.busy <;> cases r <;> simp [writeReg, unlessBusy, droppable, hb]

/-- All a host write can do to the machine. -/
theorem hostWrite_cases (off : Offset) (v : Word) (s : State) :
    (s.busy = true ∧ (∃ r, regAt off = some r ∧ droppable r = true) ∧ hostWrite off v s = dropWrite s)
      ∨ ((∀ r, regAt off = some r → droppable r = false) ∧ hostWrite off v s = s)
      ∨ (s.busy = false ∧ regAt off = some .cmd ∧ hostWrite off v s = acceptWord v s)
      ∨ (s.busy = false ∧ regAt off = some .ctrl ∧ hostWrite off v s = writeCtrl v s)
      ∨ (s.busy = false ∧ regAt off = some .timing0 ∧ hostWrite off v s = writeTiming0 v s)
      ∨ (s.busy = false ∧ regAt off = some .timing1 ∧ hostWrite off v s = writeTiming1 v s)
      ∨ (s.busy = false ∧ ∃ k, regAt off = some (.frame k) ∧ hostWrite off v s = writeFrame k v s) := by
  cases h : regAt off with
  | none => exact .inr (.inl ⟨by simp, by simp [hostWrite, h]⟩)
  | some r =>
    have e : hostWrite off v s = writeReg r v s := by simp [hostWrite, h]
    rw [e]
    rcases writeReg_cases r v s with ⟨a, b, c⟩ | ⟨a, b⟩ | ⟨a, b, c⟩ | ⟨a, b, c⟩ | ⟨a, b, c⟩ | ⟨a, b, c⟩ | ⟨a, k, b, c⟩
    · exact .inl ⟨a, ⟨r, rfl, b⟩, c⟩
    · exact .inr (.inl ⟨fun r' h' => by cases h'; exact a, b⟩)
    · exact .inr (.inr (.inl ⟨a, by rw [b], c⟩))
    · exact .inr (.inr (.inr (.inl ⟨a, by rw [b], c⟩)))
    · exact .inr (.inr (.inr (.inr (.inl ⟨a, by rw [b], c⟩))))
    · exact .inr (.inr (.inr (.inr (.inr (.inl ⟨a, by rw [b], c⟩)))))
    · exact .inr (.inr (.inr (.inr (.inr (.inr ⟨a, k, by rw [b], c⟩)))))

/-- A host read depends on the fields a host can see, and on none of the hidden ones (10_state.md R41, R42). -/
theorem hostRead_congr {s t : State} (off : Offset)
    (h : t = { s with
      shift := t.shift, op := t.op, rsvd := t.rsvd, pcnt := t.pcnt, scnt := t.scnt, lowcnt := t.lowcnt
      driveLow := t.driveLow, line := t.line, inputs := t.inputs, envCount := t.envCount, reads := t.reads }) :
    hostRead off t = hostRead off s := by
  unfold hostRead
  split
  · next r _ => rw [h]; cases r <;> rfl
  · rfl

end Sys2Proof.Machine
end

