-- ==== Sys2Proof/Laws/Events.lean ====
section
/-! SUPPORT. Events and runs: what one event can do, and how runs of ticks compose. -/

namespace Sys2Proof.Machine

/-- A step applies the oldest listed event. -/
theorem step_listed {s : State} {e : Event} {rest : List Event} (h : s.inputs = e :: rest) :
    step s = applyEvent e { s with inputs := rest } := by simp [step, nextEvent, takeEvent, h]

/-- A step with nothing listed applies a free event. -/
theorem step_free {s : State} (h : s.inputs = []) :
    step s = applyEvent (Config.environment s.envCount) { s with envCount := s.envCount + 1 } := by
  simp [step, nextEvent, takeEvent, h]

/-- All an event can do when it answers a next state. -/
theorem applyEvent_next {e : Event} {s t : State} (h : applyEvent e s = .next t) :
    (∃ a, e = .hostRead a ∧ a.wf = true ∧ t = { s with reads := hostRead a.off s :: s.reads })
      ∨ (∃ a v, e = .hostWrite a v ∧ a.wf = true ∧ t = hostWrite a.off v s)
      ∨ (∃ x, e = .tick x ∧ Move (commandOf s.op) { s with line := x } t)
      ∨ (e = .reset ∧ t = resetBlock s) := by
  cases e with
  | hostRead a =>
    simp only [applyEvent, hostReadEvent] at h
    split at h
    · next w => cases h; exact .inl ⟨a, rfl, w, rfl⟩
    · cases h
  | hostWrite a v =>
    simp only [applyEvent, hostWriteEvent] at h
    split at h
    · next w => cases h; exact .inr (.inl ⟨a, v, rfl, w, rfl⟩)
    · cases h
  | tick x => exact .inr (.inr (.inl ⟨x, rfl, runTick_move h⟩))
  | reset => cases h; exact .inr (.inr (.inr ⟨rfl, rfl⟩))

/-! ### Runs -/

@[simp] theorem runTicks_nil (s : State) : runTicks [] s = .next s := rfl

/-- The first tick of a run that answers a next state. -/
theorem runTicks_cons {x : Level} {xs : List Level} {s t : State} (h : tickEvent x s = .next t) :
    runTicks (x :: xs) s = runTicks xs t := by simp [runTicks, h]

/-- A run of two parts. -/
theorem runTicks_append {xs ys : List Level} {s t : State} (h : runTicks xs s = .next t) :
    runTicks (xs ++ ys) s = runTicks ys t := by
  induction xs generalizing s with
  | nil => cases h; rfl
  | cons x xs ih =>
    simp only [runTicks, List.cons_append] at h ⊢
    split at h
    · exact ih h
    · cases h
    · cases h

/-- The block ignores ticks in IDLE (40_line_commands.md R72). -/
theorem tickEvent_idle {x : Level} {s : State} (h : s.fsm = .idle) : tickEvent x s = .next { s with line := x } := by
  have h' : ({ s with line := x } : State).fsm = .idle := h
  unfold tickEvent runTick
  split
  · next i _ => cases i <;> exact fsmTick_idle h'
  · exact fsmTick_idle h'

/-- An idle block stays as it is through any run of ticks, but for the line. -/
theorem runTicks_idle {s : State} (h : s.fsm = .idle) (xs : List Level) :
    ∃ l, runTicks xs s = .next { s with line := l } := by
  induction xs generalizing s with
  | nil => exact ⟨s.line, rfl⟩
  | cons x xs ih =>
    obtain ⟨l, hl⟩ := ih (s := { s with line := x }) h
    exact ⟨l, by rw [runTicks_cons (tickEvent_idle h), hl]⟩

/-- A tick whose latch names a command is one tick of that command. -/
theorem tickEvent_command {x : Level} {s : State} {i : Instr} (h : commandOf s.op = some i) :
    tickEvent x s = exec i { s with line := x } := by
  have h' : commandOf ({ s with line := x } : State).op = some i := h
  simp only [tickEvent, runTick, h']

end Sys2Proof.Machine
end

