-- ==== Sys2Proof/Laws/Values.lean ====
section
/-! SUPPORT. Values and checksums: the fields as numbers, and the two ends of each check. -/

namespace Sys2Proof.Machine

/-- Concatenation as a number (00_scope.md R6). -/
theorem append_toNat {m n : Nat} (x : BitVec m) (y : BitVec n) : (x ++ y).toNat = x.toNat * 2 ^ n + y.toNat := by
  rw [BitVec.toNat_append, Nat.shiftLeft_eq, Nat.mul_comm, Nat.two_pow_add_eq_or_of_lt y.isLt]

/-- The carried CRC as a number: low byte first (41_checksum_commands.md R102). -/
theorem crcField_toNat (f : Vector Byte 8) : (crcField f).toNat = f[6].toNat + 256 * f[7].toNat := by
  rw [crcField, append_toNat]; omega

theorem checkSum8_match {s : State} (h : s.frame[4] = sum8 s.frame[0] s.frame[1] s.frame[2] s.frame[3]) :
    checkSum8 s = finish .ok (latchFields (valueBytes .singleWire s.frame)
      { s with calcValue := (sum8 s.frame[0] s.frame[1] s.frame[2] s.frame[3]).setWidth 16 }) := by
  simp only [checkSum8, h, ne_eq, not_true_eq_false, if_false]

theorem checkSum8_mismatch {s : State} (h : s.frame[4] ≠ sum8 s.frame[0] s.frame[1] s.frame[2] s.frame[3]) :
    checkSum8 s = finish .invalidChecksum
      { s with calcValue := (sum8 s.frame[0] s.frame[1] s.frame[2] s.frame[3]).setWidth 16 } := by
  simp only [checkSum8, h, ne_eq, not_false_eq_true, if_true]

theorem checkCrc16_match {s : State} (h : crc16 (crcInput s.frame) = crcField s.frame) :
    checkCrc16 s = finish .ok (latchFields (valueBytes .bus s.frame)
      { s with calcValue := crc16 (crcInput s.frame) }) := by
  simp only [checkCrc16, h, ne_eq, not_true_eq_false, if_false]

theorem checkCrc16_mismatch {s : State} (h : crc16 (crcInput s.frame) ≠ crcField s.frame) :
    checkCrc16 s = finish .invalidChecksum { s with calcValue := crc16 (crcInput s.frame) } := by
  simp only [checkCrc16, h, ne_eq, not_false_eq_true, if_true]

theorem frameDone_match {s : State} (h : shiftByte s.shift 4 = shiftSum s.shift) : frameDone s = commitFrame s := by
  simp [frameDone, h]

theorem frameDone_mismatch {s : State} (h : shiftByte s.shift 4 ≠ shiftSum s.shift) :
    frameDone s = finish .invalidChecksum s := by
  simp [frameDone, h]

end Sys2Proof.Machine
end

