-- ==== Sys2Proof/Laws/Line.lean ====
section
/-! SUPPORT. The line commands: their ACCEPT steps and the two ends of a frame's bit. -/

namespace Sys2Proof.Machine

/-- READ_BIT's ACCEPT step enters the phase of the sample's level with both counts 0 (40_line_commands.md R78). -/
theorem readBitAccept_enters (s : State) :
    readBitAccept s
      = .next (enterPhase (if s.line then .bitHigh else .bitLow) { s with pcnt := 0#9, lowcnt := 0#8 }) := by
  unfold readBitAccept
  cases hl : s.line
  · rw [phaseTick_at (by simp [level])]; rfl
  · rw [phaseTick_off (by simp [level])]; rfl

/-- A bit of a frame that is not the last (40_line_commands.md R85). -/
theorem readFrameBitDone_more {h : BitVec 9} {s : State} (hb : (s.bitcnt + 1#6).toNat ≠ Config.frameBits) :
    readFrameBitDone h s = .next (enterPhase .bitLow (shiftIn (bitValue h s) s)) := by
  simp only [readFrameBitDone]
  exact if_neg hb

/-- The last bit of a frame (40_line_commands.md R85, R86). -/
theorem readFrameBitDone_last {h : BitVec 9} {s : State} (hb : (s.bitcnt + 1#6).toNat = Config.frameBits) :
    readFrameBitDone h s = .next (frameDone (shiftIn (bitValue h s) s)) := by
  simp only [readFrameBitDone]
  exact if_pos hb

/-- The low sample that ends a high phase hands its count to the command (40_line_commands.md R74, R77). -/
theorem phaseTick_bitEnds {f : BitVec 9 → State → Result} {s : State} (hl : s.line = false) :
    phaseTick .bitHigh f s = f s.pcnt { s with pcnt := 0#9 } := by
  rw [phaseTick_off (by simp [level, hl])]; rfl

end Sys2Proof.Machine
end

