-- ==== Sys2Proof/Laws/PerInstr.lean ====
section
/-! SUPPORT. What holds of every instruction as syntax, one lemma per constructor. -/

namespace Sys2Proof.Laws.EncodedFields

/-- An instruction's word has ZERO = 0 and its opcode in OP, and the opcode names the instruction (30_encoding.md R60, R61). -/
def Statement (i : Instr) : Prop :=
  zeroOf (encode i) = 0#28 ∧ opOf (encode i) = opcode i ∧ commandOf (opcode i) = some i ∧ i.wf = true

theorem readFrame : Statement .readFrame := ⟨rfl, rfl, rfl, rfl⟩

theorem readBit : Statement .readBit := ⟨rfl, rfl, rfl, rfl⟩

theorem checkSum8 : Statement .checkSum8 := ⟨rfl, rfl, rfl, rfl⟩

theorem checkCrc16 : Statement .checkCrc16 := ⟨rfl, rfl, rfl, rfl⟩

end Sys2Proof.Laws.EncodedFields
end

