-- ==== Sys2Proof/Tests/Slice0.lean ====
section
/-! SUPPORT. Tests: ill-formed terms, words of the encoding, one-step vectors of 95_test_vectors.md, and the witnesses of the statements. -/

namespace Sys2Proof.Tests

open Sys2Proof.Machine

/-! ### Well-formedness refuses each ill-formed term -/

theorem test_wf_byte_access_refused : ({ width := .byte, off := 0x08#7 } : Access).wf = false := by decide
theorem test_wf_half_access_refused : ({ width := .half, off := 0x08#7 } : Access).wf = false := by decide
theorem test_wf_misaligned_access_refused : ({ width := .word, off := 0x02#7 } : Access).wf = false := by decide
theorem test_wf_last_access_accepted : ({ width := .word, off := 0x7C#7 } : Access).wf = true := by decide
theorem test_wf_reserved_bit_refused : commandWordWf 0x00000011#32 = false := by decide
theorem test_wf_reserved_op_refused : commandWordWf 0x00000005#32 = false := by decide
theorem test_wf_zero_op_refused : commandWordWf 0x00000000#32 = false := by decide
theorem test_wf_encodings_accepted : ∀ i : Instr, i.wf = true ∧ commandWordWf (encode i) = true := by
  intro i; cases i <;> decide
theorem test_wf_event_refused : (Event.hostWrite { width := .half, off := 0x04#7 } 1#32).wf = false := by decide
theorem test_wf_place_refused : (Place.raw 0x41#7).wf = false := by decide
theorem test_wf_line_refused : (HostLine.rd (.raw 0x41#7)).wf = false := by decide
theorem test_wf_empty_loadframe_refused : (HostLine.loadFrame []).wf = false := by decide
theorem test_wf_long_loadframe_refused : (HostLine.loadFrame (List.replicate 9 0#8)).wf = false := by decide

/-! ### The words of 30_encoding.md R60 and R61, bit by bit: ZERO in [31:4], OP in [3:0] -/

theorem test_decode_read_frame : decode 0b0000000000000000000000000000_0001#32 = .ok .readFrame := by rfl
theorem test_decode_read_bit : decode 0b0000000000000000000000000000_0010#32 = .ok .readBit := by rfl
theorem test_decode_check_sum8 : decode 0b0000000000000000000000000000_0011#32 = .ok .checkSum8 := by rfl
theorem test_decode_check_crc16 : decode 0b0000000000000000000000000000_0100#32 = .ok .checkCrc16 := by rfl
theorem test_decode_table_word : decodeTableWord 32 4 = some .checkCrc16 := by decide
theorem test_decode_table_word_reserved : decodeTableWord 32 0x80000001 = none := by decide

/-! ### A small machine in the middle of a command -/

/-- A machine of EN = 1, SIGNED = 1 running `i` in the state `f`, `x` being the sample of the tick. -/
def running (i : Instr) (f : FsmState) (x : Level) : State :=
  { State.reset with en := true, signed := true, busy := true, op := opcode i, fsm := f, line := x }

/-- The same with these bytes in FRAME. -/
def withFrame (f : Vector Byte 8) (s : State) : State := { s with frame := f }

/-- Whether a result is a next state with this STATUS word in which `p` holds. -/
def endsWith (status : Word) (p : State → Bool) (r : Result) : Bool :=
  match r with
  | .next t    => decide (readReg .status t = status) && p t
  | .fault _   => false
  | .refused _ => false

/-- M1 and M2 of 95_test_vectors.md. -/
def frameM1 : Vector Byte 8 := #v[0x02#8, 0x58#8, 0x00#8, 0x96#8, 0xF0#8, 0#8, 0#8, 0#8]
def frameM2 : Vector Byte 8 := #v[0x02#8, 0x58#8, 0x00#8, 0x96#8, 0xF1#8, 0#8, 0#8, 0#8]

/-- K1 and K2 of 95_test_vectors.md. -/
def frameK1 : Vector Byte 8 := #v[0x03#8, 0x04#8, 0x02#8, 0x58#8, 0x00#8, 0x96#8, 0xF1#8, 0xED#8]
def frameK2 : Vector Byte 8 := #v[0x03#8, 0x04#8, 0x02#8, 0x58#8, 0x00#8, 0x96#8, 0xED#8, 0xF1#8]

/-! ### One-step vectors of 95_test_vectors.md, at most two an instruction -/

/-- Vector B1's last tick: after L50 H70 a low sample. -/
theorem test_read_bit_one :
    endsWith 0x00010002#32 (fun t => decide (readReg .bitres t = 0x00463201#32))
      (exec .readBit { running .readBit (.wait .bitHigh) false with pcnt := 70#9, lowcnt := 50#8 }) = true := by decide

/-- Vector B8's last tick: the 56th low sample. -/
theorem test_read_bit_timeout :
    endsWith 0x00000442#32 (fun t => decide (readReg .bitres t = 0#32))
      (exec .readBit { running .readBit (.wait .bitLow) false with pcnt := 55#9 }) = true := by decide

/-- Vector F2's last tick: 39 bits of 02 58 80 96 70 collected, the last bit a 0 of 26 samples. -/
theorem test_read_frame_commits :
    endsWith 0x00280002#32
      (fun t => decide (readReg .hum t = 0x258#32) && decide (readReg .temp t = 0x00010096#32)
        && decide (readReg .calcReg t = 0x70#32) && decide (readReg (.frame 4) t = 0x70#32))
      (exec .readFrame
        { running .readFrame (.wait .bitHigh) false with
          pcnt := 26#9, lowcnt := 50#8, bitcnt := 39#6, shift := 0x025880967#40 <<< 3 }) = true := by decide

/-- Vector F5: the line is low at the ACCEPT tick. -/
theorem test_read_frame_line_low :
    endsWith 0x00000032#32 (fun t => !t.driveLow) (exec .readFrame (running .readFrame .accept false)) = true := by decide

/-- Vector M1. -/
theorem test_check_sum8_ok :
    endsWith 0x00000002#32
      (fun t => decide (readReg .calcReg t = 0xF0#32) && decide (readReg .hum t = 0x258#32)
        && decide (readReg .temp t = 0x00000096#32))
      (exec .checkSum8 (withFrame frameM1 (running .checkSum8 .accept false))) = true := by decide

/-- Vector M2. -/
theorem test_check_sum8_mismatch :
    endsWith 0x00000052#32 (fun t => decide (readReg .calcReg t = 0xF0#32) && decide (readReg .hum t = 0#32))
      (exec .checkSum8 (withFrame frameM2 (running .checkSum8 .accept false))) = true := by decide

/-- Vector K1. -/
theorem test_check_crc16_ok :
    endsWith 0x00000002#32
      (fun t => decide (readReg .calcReg t = 0xEDF1#32) && decide (readReg .hum t = 0x258#32)
        && decide (readReg .temp t = 0x00000096#32))
      (exec .checkCrc16 (withFrame frameK1 (running .checkCrc16 .accept false))) = true := by decide +kernel

/-- Vector K2: the CRC bytes swapped. -/
theorem test_check_crc16_swapped :
    endsWith 0x00000052#32 (fun t => decide (readReg .calcReg t = 0xEDF1#32) && decide (readReg .hum t = 0#32))
      (exec .checkCrc16 (withFrame frameK2 (running .checkCrc16 .accept false))) = true := by decide +kernel

/-- Vectors H2 and H8. -/
theorem test_checksum_functions : sum8 0x02#8 0x58#8 0x80#8 0x96#8 = 0x70#8 ∧ crc16 [0x00#8] = 0x40BF#16 := by decide

/-- Vector T3: a negative zero is kept. -/
theorem test_negative_zero :
    temperatureOf true { hHi := 0#8, hLo := 0#8, tHi := 0x80#8, tLo := 0x00#8 } = { mag := 0#16, neg := true } := by decide

/-- Vector E1: READ_FRAME with a reserved bit and EN = 0 ends with NOT_INIT (S8). -/
theorem test_not_init_first :
    endsWith 0x00000022#32 (fun _ => true) (tickEvent false (acceptWord 0x00000011#32 State.reset)) = true := by decide

/-! ### Witnesses: for every statement with hypotheses, states and operands that meet them together, clause by clause -/

/-- A result that is a next state in which `p` holds. -/
def reaches (p : State → Prop) (r : Result) : Prop := ∃ t, r = .next t ∧ p t

theorem reaches_intro {p : State → Prop} {r : Result} {t : State} (h : r = .next t) (hp : p t) : reaches p r := ⟨t, h, hp⟩

theorem witness_StepRunsTheDecodedCommand :
    (∃ s : State, s.inputs = [.tick false] ∧ commandOf s.op = some .readBit)
      ∧ decode 0x00000004#32 = .ok .checkCrc16 :=
  ⟨⟨{ running .readBit .accept true with inputs := [.tick false] }, rfl, rfl⟩, rfl⟩

theorem witness_StepAppliesTheNextEvent :
    (∃ s : State, s.inputs = [.reset, .tick true]) ∧ State.reset.inputs = [] :=
  ⟨⟨{ State.reset with inputs := [.reset, .tick true] }, rfl⟩, rfl⟩

/-- Two ticks of a running READ_BIT, and a fault of a state no run reaches. -/
theorem witness_TicksAreSteps :
    reaches (fun _ => True) (runTicks [false, true] (running .readBit .accept true))
      ∧ runTicks [false] (running .checkSum8 (.wait .bitHigh) true) = .fault .bitDoneWithoutLineCommand :=
  ⟨reaches_intro rfl trivial, rfl⟩

theorem witness_ResetEventRestoresReset :
    ∃ s : State, s.busy = true ∧ s.inputs = [.reset] :=
  ⟨{ running .readFrame .start true with inputs := [.reset] }, rfl, rfl⟩

/-- A READ_BIT in its low phase meets the invariant. -/
theorem inv_low_phase (inputs : List Event) :
    BlockInv { running .readBit (.wait .bitLow) false with pcnt := 55#9, inputs := inputs } := by
  constructor <;> simp [running, State.reset, opcode, Phase.isHandshake, limit]

/-- A READ_FRAME in its start pulse meets the invariant. -/
theorem inv_start (inputs : List Event) :
    BlockInv { running .readFrame .start true with scnt := 9999#18, driveLow := true, inputs := inputs } := by
  constructor <;> simp [running, State.reset, opcode, startTicks, Config.ticksPerMs]

theorem witness_StepKeepsInvariant :
    ∃ s : State, BlockInv s ∧ s.busy = true ∧ reaches (fun _ => True) (step s) :=
  ⟨_, inv_start [.tick false], rfl, reaches_intro rfl trivial⟩

theorem witness_StepStopsOnlyOnUndefinedAccess :
    (∃ s : State, BlockInv s ∧ step s = .refused (.accessNotDefined { width := .word, off := 0x7E#7 }))
      ∧ ∃ s : State, BlockInv s ∧ (nextEvent s).wf = true :=
  ⟨⟨_, inv_low_phase [.hostRead { width := .word, off := 0x7E#7 }], rfl⟩, ⟨_, inv_low_phase [.tick false], rfl⟩⟩

theorem witness_HostReadReturnsTheRegister :
    (∃ s : State, s.inputs = [.hostRead { width := .word, off := 0x7C#7 }] ∧ (0x7C#7).toNat % 4 = 0)
      ∧ 0x44 ≤ (0x44#7).toNat ∧ 0x44 ≤ (0x7F#7).toNat :=
  ⟨⟨{ State.reset with inputs := [.hostRead { width := .word, off := 0x7C#7 }] }, rfl, rfl⟩, by decide, by decide⟩

theorem witness_HostWriteOfEveryRegister :
    (∃ s : State, s.inputs = [.hostWrite { width := .word, off := 0x0C#7 } 1#32] ∧ (0x0C#7).toNat % 4 = 0)
      ∧ State.reset.busy = false ∧ (running .readBit .accept true).busy = true
      ∧ (regAt 0x00#7 = some .ctrl ∧ droppable .ctrl = true)
      ∧ (regAt 0x3C#7 = some (.frame 7) ∧ droppable (.frame 7) = true)
      ∧ (regAt 0x40#7 = some .calcReg ∧ droppable .calcReg = false) ∧ regAt 0x44#7 = none :=
  ⟨⟨{ State.reset with inputs := [.hostWrite { width := .word, off := 0x0C#7 } 1#32] }, rfl, by decide⟩, by decide⟩

theorem witness_ReadBackMasksReservedBits : State.reset.busy = false := rfl

theorem witness_RegisterMap : 0x44 ≤ (0x44#7).toNat ∧ 0x44 ≤ (0x7F#7).toNat := by decide

theorem witness_OnlyWholeAlignedAccessesComplete :
    (∃ s : State, s.inputs = [.hostRead { width := .word, off := 0x00#7 }] ∧ (0x00#7).toNat % 4 = 0)
      ∧ (∃ s : State, s.inputs = [.hostWrite { width := .word, off := 0x05#7 } 1#32] ∧ (0x05#7).toNat % 4 ≠ 0)
      ∧ (∃ s : State, s.inputs = [.hostWrite { width := .byte, off := 0x04#7 } 1#32]
          ∧ AccessWidth.byte ≠ AccessWidth.word) :=
  ⟨⟨{ State.reset with inputs := [.hostRead { width := .word, off := 0x00#7 }] }, rfl, rfl⟩,
    ⟨{ State.reset with inputs := [.hostWrite { width := .word, off := 0x05#7 } 1#32] }, rfl, by decide⟩,
    ⟨{ State.reset with inputs := [.hostWrite { width := .byte, off := 0x04#7 } 1#32] }, rfl, by decide⟩⟩

theorem witness_UnmappedOffsetsReadZeroAndIgnoreWrites :
    (0x44 ≤ (0x44#7).toNat ∧ (0x44#7).toNat % 4 = 0) ∧ (0x44 ≤ (0x7C#7).toNat ∧ (0x7C#7).toNat % 4 = 0)
      ∧ (∃ s : State, s.inputs = [.hostRead { width := .word, off := 0x44#7 }])
      ∧ (∃ s : State, s.inputs = [.hostWrite { width := .word, off := 0x7C#7 } 1#32])
      ∧ ∃ addr : Nat, addr < Config.BASE ∨ Config.BASE + 128 ≤ addr :=
  ⟨by decide, by decide, ⟨{ State.reset with inputs := [.hostRead { width := .word, off := 0x44#7 }] }, rfl⟩,
    ⟨{ State.reset with inputs := [.hostWrite { width := .word, off := 0x7C#7 } 1#32] }, rfl⟩,
    ⟨Config.BASE + 128, .inr (Nat.le_refl _)⟩⟩

/-- A dropped write of TIMING0 sets REJ; a command accepted and a reset clear it. -/
theorem witness_RejectionIsSetOnlyByADroppedWrite :
    reaches (fun t => t.rej = true)
        (applyEvent (.hostWrite { width := .word, off := 0x0C#7 } 0#32) (running .readBit .accept true))
      ∧ regAt 0x0C#7 = some .timing0 ∧ droppable .timing0 = true
      ∧ reaches (fun t => t.rej = false)
        (applyEvent (.hostWrite { width := .word, off := 0x04#7 } 3#32) { State.reset with rej := true })
      ∧ regAt 0x04#7 = some .cmd
      ∧ reaches (fun t => t.rej = false) (applyEvent .reset { running .readBit .accept true with rej := true }) :=
  ⟨reaches_intro rfl rfl, rfl, rfl, reaches_intro rfl rfl, rfl, reaches_intro rfl rfl⟩

theorem witness_HiddenStateIsNotReadable :
    ∃ s t : State, t ≠ s ∧ t =
      { s with
        shift := t.shift, op := t.op, rsvd := t.rsvd, pcnt := t.pcnt, scnt := t.scnt, lowcnt := t.lowcnt
        driveLow := t.driveLow, line := t.line, inputs := t.inputs, envCount := t.envCount, reads := t.reads } :=
  ⟨State.reset, { State.reset with shift := 5#40, pcnt := 3#9 },
    fun h => absurd (congrArg State.shift h) (by decide), rfl⟩

theorem witness_PseudoInstructionExpansions :
    0 < [1#8].length ∧ [1#8].length ≤ 8 ∧ 7 < (List.replicate 8 2#8).length ∧ (List.replicate 8 2#8).length ≤ 8 := by decide

theorem witness_IdleIgnoresTicks :
    ∃ s : State, s.fsm = .idle ∧ s.op = opcode .readFrame ∧ s.inputs = [.tick false] :=
  ⟨{ State.reset with op := opcode .readFrame, inputs := [.tick false] }, rfl, rfl, rfl⟩

theorem witness_LineCommandBeforeInitEndsWithNotInit :
    ∃ s : State, s.fsm = .accept ∧ s.en = false ∧ s.rsvd = true ∧ s.line = false :=
  ⟨{ State.reset with fsm := .accept, rsvd := true, line := false }, rfl, rfl, rfl, rfl⟩

/-- The least and the greatest word with a reserved bit. -/
theorem witness_ReservedBitsEndWithInvalidArg :
    State.reset.busy = false ∧ 16 ≤ (0x00000010#32).toNat ∧ 16 ≤ (0xFFFFFFF1#32).toNat := by decide

theorem witness_ReservedOpEndsWithInvalidArg :
    (∃ s : State, s.inputs = [.tick false] ∧ s.op.toNat = 0 ∧ s.fsm = .accept)
      ∧ (∃ s : State, s.inputs = [.tick true] ∧ 5 ≤ s.op.toNat ∧ s.op = 5#4 ∧ s.fsm = .accept)
      ∧ ∃ s : State, s.inputs = [.tick true] ∧ 5 ≤ s.op.toNat ∧ s.op = 15#4 ∧ s.fsm = .accept :=
  ⟨⟨{ State.reset with fsm := .accept, inputs := [.tick false] }, rfl, rfl, rfl⟩,
    ⟨{ State.reset with fsm := .accept, op := 5#4, inputs := [.tick true] }, rfl, by decide, rfl, rfl⟩,
    ⟨{ State.reset with fsm := .accept, op := 15#4, inputs := [.tick true] }, rfl, by decide, rfl, rfl⟩⟩

/-- The last sample within the limit and the first past it, and the greatest count. -/
theorem witness_SampleAtLevelIsCountedOrTimesOut :
    (∃ s : State, s.fsm = .wait .bitLow ∧ s.line = level .bitLow ∧ s.pcnt.toNat ≤ 255
        ∧ s.pcnt.toNat + 1 = (limit .bitLow s).toNat)
      ∧ (∃ s : State, s.fsm = .wait .bitLow ∧ s.line = level .bitLow ∧ s.pcnt.toNat ≤ 255
        ∧ s.pcnt.toNat = (limit .bitLow s).toNat)
      ∧ ∃ s : State, s.fsm = .wait .bitHigh ∧ s.line = level .bitHigh ∧ s.pcnt.toNat = 255
        ∧ (limit .bitHigh s).toNat = 255 :=
  ⟨⟨{ running .readBit (.wait .bitLow) false with pcnt := 54#9 }, rfl, rfl, by decide, by decide⟩,
    ⟨{ running .readBit (.wait .bitLow) false with pcnt := 55#9 }, rfl, rfl, by decide, by decide⟩,
    ⟨{ running .readBit (.wait .bitHigh) true with pcnt := 255#9, tBitHighMax := 255#8 }, rfl, rfl, by decide, by decide⟩⟩

theorem witness_EnteredPhaseCountsItsFirstSample :
    (∃ s : State, s.line = level .bitHigh ∧ s.pcnt = 0#9 ∧ 1 ≤ (limit .bitHigh s).toNat)
      ∧ ∃ s : State, s.pcnt = 0#9 ∧ limit .bitHigh s = 0#8 :=
  ⟨⟨State.reset, rfl, rfl, by decide⟩, ⟨{ State.reset with tBitHighMax := 0#8 }, rfl, rfl⟩⟩

theorem witness_HandshakePhasesFollowInOrder :
    (∃ s : State, s.fsm = .wait .waitRelease ∧ s.line ≠ level .waitRelease ∧ 1 ≤ (limit .respLow s).toNat)
      ∧ ∃ s : State, s.fsm = .wait .respHigh ∧ s.line ≠ level .respHigh ∧ limit .bitLow s = 0#8 :=
  ⟨⟨running .readFrame (.wait .waitRelease) false, rfl, by decide, by decide⟩,
    ⟨{ running .readFrame (.wait .respHigh) false with tBitLowMax := 0#8 }, rfl, by decide, rfl⟩⟩

theorem witness_LowPhaseEndsIntoHighPhase :
    (∃ s : State, s.fsm = .wait .bitLow ∧ s.line = true ∧ s.pcnt.toNat ≤ 255 ∧ s.tBitHighMax.toNat = 1)
      ∧ ∃ s : State, s.fsm = .wait .bitLow ∧ s.line = true ∧ s.pcnt.toNat = 255 ∧ s.tBitHighMax = 0#8 :=
  ⟨⟨{ running .readBit (.wait .bitLow) true with tBitHighMax := 1#8 }, rfl, rfl, by decide, by decide⟩,
    ⟨{ running .readBit (.wait .bitLow) true with tBitHighMax := 0#8, pcnt := 255#9 }, rfl, rfl, by decide, rfl⟩⟩

theorem witness_PhaseLastsAtMostItsLimit :
    ∃ s : State, (s.op = 1#4 ∨ s.op = 2#4) ∧ s.fsm = .wait .bitLow ∧ s.pcnt = 0#9
      ∧ (1 ≤ 55 ∧ 55 = (limit .bitLow s).toNat) ∧ 56 = (limit .bitLow s).toNat + 1 :=
  ⟨running .readBit (.wait .bitLow) false, .inr rfl, rfl, rfl, by decide, by decide⟩

theorem witness_ReadBitAcceptTick :
    (∃ s : State, s.fsm = .accept ∧ s.en = true ∧ s.rsvd = false ∧ s.line = false ∧ 1 ≤ s.tBitLowMax.toNat)
      ∧ (∃ s : State, s.fsm = .accept ∧ s.en = true ∧ s.rsvd = false ∧ s.line = true ∧ 1 ≤ s.tBitHighMax.toNat)
      ∧ (∃ s : State, s.fsm = .accept ∧ s.en = true ∧ s.rsvd = false ∧ s.line = false ∧ s.tBitLowMax = 0#8)
      ∧ ∃ s : State, s.fsm = .accept ∧ s.en = true ∧ s.rsvd = false ∧ s.line = true ∧ s.tBitHighMax = 0#8 :=
  ⟨⟨running .readBit .accept false, rfl, rfl, rfl, rfl, by decide⟩,
    ⟨running .readBit .accept true, rfl, rfl, rfl, rfl, by decide⟩,
    ⟨{ running .readBit .accept false with tBitLowMax := 0#8 }, rfl, rfl, rfl, rfl, rfl⟩,
    ⟨{ running .readBit .accept true with tBitHighMax := 0#8 }, rfl, rfl, rfl, rfl, rfl⟩⟩

theorem witness_ReadBitStoresTheBit :
    ∃ s : State, s.fsm = .wait .bitHigh ∧ s.line = false ∧ s.pcnt.toNat = 255 ∧ s.pcnt.toNat ≤ 255 :=
  ⟨{ running .readBit (.wait .bitHigh) false with pcnt := 255#9 }, rfl, rfl, by decide, by decide⟩

/-- The shortest and the longest accepted pulse with the defaults (B3's form and B7). -/
theorem witness_ReadBitDecodesEveryAcceptedPulse :
    ∃ s : State, s.fsm = .accept ∧ s.op = 2#4 ∧ s.en = true ∧ s.rsvd = false
      ∧ (0 ≤ s.tBitLowMax.toNat ∧ 1 ≤ s.tBitHighMax.toNat) ∧ 55 = s.tBitLowMax.toNat ∧ 75 = s.tBitHighMax.toNat :=
  ⟨running .readBit .accept true, rfl, rfl, rfl, rfl, by decide, by decide, by decide⟩

theorem witness_ReadBitFinishesWithinItsBound :
    ∃ (s : State) (xs : List Level), s.fsm = .accept ∧ s.op = 2#4 ∧ s.en = true ∧ s.rsvd = false
      ∧ xs.length = s.tBitLowMax.toNat + s.tBitHighMax.toNat + 1 :=
  ⟨running .readBit .accept true, List.replicate 131 true, rfl, rfl, rfl, rfl, List.length_replicate⟩

theorem witness_ReadFrameAcceptTick :
    (∃ s : State, s.fsm = .accept ∧ s.en = true ∧ s.rsvd = false ∧ s.line = false)
      ∧ (∃ s : State, s.fsm = .accept ∧ s.en = true ∧ s.rsvd = false ∧ s.line = true ∧ s.startLowMs ≠ 0#8)
      ∧ ∃ s : State, s.fsm = .accept ∧ s.en = true ∧ s.rsvd = false ∧ s.line = true ∧ s.startLowMs = 0#8 :=
  ⟨⟨running .readFrame .accept false, rfl, rfl, rfl, rfl⟩,
    ⟨running .readFrame .accept true, rfl, rfl, rfl, rfl, by decide⟩,
    ⟨{ running .readFrame .accept true with startLowMs := 0#8 }, rfl, rfl, rfl, rfl, rfl⟩⟩

theorem witness_StartPulseLastsItsMilliseconds :
    (∃ s : State, s.fsm = .start ∧ s.scnt.toNat + 2 = s.startLowMs.toNat * 1000)
      ∧ (∃ s : State, s.fsm = .start ∧ s.scnt.toNat + 1 = s.startLowMs.toNat * 1000)
      ∧ ∃ (s : State) (xs ys : List Level), s.fsm = .accept ∧ s.op = 1#4 ∧ s.en = true ∧ s.rsvd = false
        ∧ s.startLowMs ≠ 0#8 ∧ xs.length < s.startLowMs.toNat * 1000 ∧ ys.length = s.startLowMs.toNat * 1000 :=
  ⟨⟨{ running .readFrame .start true with scnt := 9998#18 }, rfl, by decide⟩,
    ⟨{ running .readFrame .start true with scnt := 9999#18 }, rfl, by decide⟩,
    ⟨running .readFrame .accept true, [], List.replicate 10000 false, rfl, rfl, rfl, rfl, by decide, by decide,
      List.length_replicate⟩⟩

theorem witness_FrameBitIsShiftedIn :
    (∃ s : State, s.fsm = .wait .bitHigh ∧ s.line = false ∧ s.bitcnt.toNat = 38 ∧ s.bitcnt.toNat < 39
        ∧ 1 ≤ s.tBitLowMax.toNat)
      ∧ ∃ s : State, s.fsm = .wait .bitHigh ∧ s.line = false ∧ s.bitcnt.toNat < 39 ∧ s.tBitLowMax = 0#8 :=
  ⟨⟨{ running .readFrame (.wait .bitHigh) false with bitcnt := 38#6 }, rfl, rfl, by decide, by decide, by decide⟩,
    ⟨{ running .readFrame (.wait .bitHigh) false with tBitLowMax := 0#8 }, rfl, rfl, by decide, rfl⟩⟩

/-- The frames of F1 and F4 as their last bits end. -/
theorem witness_LastBitCommitsOrFails :
    (∃ (s : State) (sh : BitVec 40), s.fsm = .wait .bitHigh ∧ s.line = false ∧ s.bitcnt = 39#6
        ∧ sh = BitVec.ofNat 40 (2 * s.shift.toNat + (decide (s.tOne.toNat < s.pcnt.toNat)).toNat)
        ∧ BitVec.ofNat 8 (sh.toNat % 256) = (0x02#8 + 0x58#8 + 0x00#8 + 0x96#8) ∧ sh = 0x02580096F0#40)
      ∧ ∃ (s : State) (sh : BitVec 40), s.fsm = .wait .bitHigh ∧ s.line = false ∧ s.bitcnt = 39#6
        ∧ sh = BitVec.ofNat 40 (2 * s.shift.toNat + (decide (s.tOne.toNat < s.pcnt.toNat)).toNat)
        ∧ BitVec.ofNat 8 (sh.toNat % 256) ≠ (0x02#8 + 0x58#8 + 0x00#8 + 0x96#8) ∧ sh = 0x02580096F1#40 :=
  ⟨⟨{ running .readFrame (.wait .bitHigh) false with bitcnt := 39#6, shift := 0x012C004B78#40, pcnt := 26#9 },
      0x02580096F0#40, rfl, rfl, rfl, by decide, by decide, rfl⟩,
    ⟨{ running .readFrame (.wait .bitHigh) false with bitcnt := 39#6, shift := 0x012C004B78#40, pcnt := 70#9 },
      0x02580096F1#40, rfl, rfl, rfl, by decide, by decide, rfl⟩⟩

/-- The longest accepted waveform with the defaults (F15), and the shortest (F14). -/
theorem witness_ReadFrameDecodesEveryAcceptedWaveform :
    ∃ (s : State) (start : List Level) (long short : Vector (Nat × Nat) 40),
      s.fsm = .accept ∧ s.op = 1#4 ∧ s.en = true ∧ s.rsvd = false ∧ s.bitcnt = 0#6
        ∧ start.length = s.startLowMs.toNat * 1000
        ∧ 200 = s.tReleaseMax.toNat ∧ 85 = s.tRespLowMax.toNat ∧ 85 = s.tRespHighMax.toNat
        ∧ (∀ k : Fin 40, 1 ≤ long[k].1 ∧ long[k].1 = s.tBitLowMax.toNat ∧ 1 ≤ long[k].2
            ∧ long[k].2 = s.tBitHighMax.toNat)
        ∧ (∀ k : Fin 40, 1 = short[k].1 ∧ short[k].1 ≤ s.tBitLowMax.toNat ∧ 1 = short[k].2
            ∧ short[k].2 ≤ s.tBitHighMax.toNat) :=
  ⟨running .readFrame .accept true, List.replicate 10000 false, Vector.replicate 40 (55, 75), Vector.replicate 40 (1, 1),
    rfl, rfl, rfl, rfl, rfl, List.length_replicate, by decide, by decide, by decide,
    fun k => by simp [running, State.reset], fun k => by simp [running, State.reset]⟩

theorem witness_ReadFrameFinishesWithinItsBound :
    ∃ (s : State) (xs : List Level), s.fsm = .accept ∧ s.op = 1#4 ∧ s.en = true ∧ s.rsvd = false ∧ s.bitcnt = 0#6
      ∧ xs.length = readFrameBound s :=
  ⟨running .readFrame .accept true, List.replicate 15572 true, rfl, rfl, rfl, rfl, rfl, List.length_replicate⟩

theorem witness_CheckSum8ValidatesTheFrame :
    (∃ s : State, s.fsm = .accept ∧ s.rsvd = false ∧ s.frame[4] = BitVec.ofNat 8
        (s.frame[0].toNat + s.frame[1].toNat + s.frame[2].toNat + s.frame[3].toNat))
      ∧ (∃ s : State, s.fsm = .accept ∧ s.rsvd = false ∧ s.frame[4] ≠ BitVec.ofNat 8
        (s.frame[0].toNat + s.frame[1].toNat + s.frame[2].toNat + s.frame[3].toNat))
      ∧ ∃ s : State, s.fsm = .accept ∧ s.rsvd = true :=
  ⟨⟨withFrame frameM1 (running .checkSum8 .accept true), rfl, rfl, by decide⟩,
    ⟨withFrame frameM2 (running .checkSum8 .accept true), rfl, rfl, by decide⟩,
    ⟨{ running .checkSum8 .accept true with rsvd := true }, rfl, rfl⟩⟩

theorem witness_CheckCrc16ValidatesTheFrame :
    (∃ s : State, s.fsm = .accept ∧ s.rsvd = false
        ∧ (crc16 [s.frame[0], s.frame[1], s.frame[2], s.frame[3], s.frame[4], s.frame[5]]).toNat
          = s.frame[6].toNat + 256 * s.frame[7].toNat)
      ∧ (∃ s : State, s.fsm = .accept ∧ s.rsvd = false
        ∧ (crc16 [s.frame[0], s.frame[1], s.frame[2], s.frame[3], s.frame[4], s.frame[5]]).toNat
          ≠ s.frame[6].toNat + 256 * s.frame[7].toNat)
      ∧ ∃ s : State, s.fsm = .accept ∧ s.rsvd = true :=
  ⟨⟨withFrame frameK1 (running .checkCrc16 .accept true), rfl, rfl, by decide +kernel⟩,
    ⟨withFrame frameK2 (running .checkCrc16 .accept true), rfl, rfl, by decide +kernel⟩,
    ⟨{ running .checkCrc16 .accept true with rsvd := true }, rfl, rfl⟩⟩

/-- States that differ in EN, the line and a threshold, with the same SIGNED and with another; the check ends with OK. -/
theorem witness_ChecksDependOnlyOnTheFrame :
    ∃ s s' s'' : State, s.fsm = .accept ∧ s'.fsm = .accept ∧ s''.fsm = .accept
      ∧ s.rsvd = false ∧ s'.rsvd = false ∧ s''.rsvd = false ∧ s'.frame = s.frame ∧ s''.frame = s.frame
      ∧ s'.line ≠ s.line ∧ s'.en ≠ s.en ∧ s'.tOne ≠ s.tOne ∧ s'.signed = s.signed ∧ s''.signed ≠ s.signed
      ∧ reaches (fun t => t.err = .ok) (exec .checkSum8 s) :=
  ⟨withFrame frameM1 (running .checkSum8 .accept true),
    { withFrame frameM1 (running .checkSum8 .accept false) with en := false, tOne := 0#8 },
    { withFrame frameM1 (running .checkSum8 .accept true) with signed := false },
    rfl, rfl, rfl, rfl, rfl, rfl, rfl, rfl, by decide, by decide, by decide, rfl, by decide, reaches_intro rfl rfl⟩

theorem witness_CalcChangesOnlyByTheChecksAndTheCommit :
    ∃ s : State, reaches (fun t => t.calcValue ≠ s.calcValue) (applyEvent (.tick true) s) :=
  ⟨withFrame frameM2 (running .checkSum8 .accept true), reaches_intro rfl (by decide)⟩

theorem witness_LatchedFieldsOfTheBytes :
    (running .checkSum8 .accept true).signed = true ∧ State.reset.signed = false := ⟨rfl, rfl⟩

theorem witness_ValuesChangeOnlyOnSuccess :
    ∃ s : State, reaches (fun t => t.hum ≠ s.hum ∨ t.temp ≠ s.temp) (applyEvent (.tick true) s) :=
  ⟨withFrame frameM1 (running .checkSum8 .accept true), reaches_intro rfl (.inl (by decide))⟩

theorem witness_ErrorsLeaveTheResults :
    ∃ s : State, s.fsm ≠ .idle ∧ s.op ≠ 3#4 ∧ s.op ≠ 4#4
      ∧ reaches (fun t => t.fsm = .idle ∧ t.err ≠ .ok) (tickEvent false s) :=
  ⟨{ running .readBit (.wait .bitLow) true with pcnt := 55#9 }, by decide, by decide, by decide,
    reaches_intro rfl (by decide)⟩

theorem witness_RunningCommandShowsThePreviousResults :
    ∃ s : State, reaches (fun t => t.fsm ≠ .idle) (tickEvent false s) :=
  ⟨running .readBit (.wait .bitLow) true, reaches_intro rfl (by decide)⟩

theorem witness_RunningCommandKeepsItsOperands :
    (∃ s : State, s.busy = true ∧ reaches (fun _ => True) (applyEvent (.tick false) s))
      ∧ ∃ s : State, s.busy = true
        ∧ reaches (fun _ => True) (applyEvent (.hostWrite { width := .word, off := 0x10#7 } 0#32) s) :=
  ⟨⟨running .readBit .accept true, rfl, reaches_intro rfl trivial⟩,
    ⟨running .readBit .accept true, rfl, reaches_intro rfl trivial⟩⟩

theorem witness_OnlyResetStopsARunningCommand :
    (∃ s : State, BlockInv s ∧ s.busy = true ∧ reaches (fun t => t.busy = false) (applyEvent .reset s))
      ∧ ∃ s : State, BlockInv s ∧ s.busy = true ∧ reaches (fun t => t.busy = false) (applyEvent (.tick false) s) :=
  ⟨⟨_, inv_start [], rfl, reaches_intro rfl rfl⟩, ⟨_, inv_low_phase [], rfl, reaches_intro rfl rfl⟩⟩

/-- Each of the five errors, from a state that meets the invariant. -/
theorem witness_ErrorsOfEachCommand :
    (∃ s : State, BlockInv s ∧ s.op = opcode .readBit ∧ s.fsm ≠ .idle
        ∧ reaches (fun t => t.fsm = .idle ∧ t.err = .notInit) (exec .readBit s))
      ∧ (∃ s : State, BlockInv s ∧ s.op = opcode .readFrame ∧ s.fsm ≠ .idle
        ∧ reaches (fun t => t.fsm = .idle ∧ t.err = .invalidArg) (exec .readFrame s))
      ∧ (∃ s : State, BlockInv s ∧ s.op = opcode .readFrame ∧ s.fsm ≠ .idle
        ∧ reaches (fun t => t.fsm = .idle ∧ t.err = .invalidResponse) (exec .readFrame s))
      ∧ (∃ s : State, BlockInv s ∧ s.op = opcode .readBit ∧ s.fsm ≠ .idle
        ∧ reaches (fun t => t.fsm = .idle ∧ t.err = .timeout) (exec .readBit s))
      ∧ ∃ s : State, BlockInv s ∧ s.op = opcode .checkSum8 ∧ s.fsm ≠ .idle
        ∧ reaches (fun t => t.fsm = .idle ∧ t.err = .invalidChecksum) (exec .checkSum8 s) := by
  refine ⟨⟨{ running .readBit .accept true with en := false }, ?_, rfl, by decide, reaches_intro rfl ⟨rfl, rfl⟩⟩,
    ⟨{ running .readFrame .accept true with rsvd := true }, ?_, rfl, by decide, reaches_intro rfl ⟨rfl, rfl⟩⟩,
    ⟨running .readFrame .accept false, ?_, rfl, by decide, reaches_intro rfl ⟨rfl, rfl⟩⟩,
    ⟨_, inv_low_phase [], rfl, by decide, reaches_intro rfl ⟨rfl, rfl⟩⟩,
    ⟨withFrame frameM2 (running .checkSum8 .accept true), ?_, rfl, by decide, reaches_intro rfl ⟨rfl, rfl⟩⟩⟩
  all_goals constructor <;> simp [withFrame, running, State.reset]

theorem witness_ReadFrameTickFrame :
    (∃ s : State, reaches (fun t => ¬(t.fsm = .idle ∧ t.err = .ok)) (exec .readFrame s))
      ∧ ∃ s : State, reaches (fun t => t.fsm ≠ .idle) (exec .readFrame s) :=
  ⟨⟨running .readFrame .accept false, reaches_intro rfl (by decide)⟩,
    ⟨running .readFrame .accept true, reaches_intro rfl (by decide)⟩⟩

theorem witness_ReadBitTickFrame :
    (∃ s : State, s.fsm ≠ .start ∧ reaches (fun t => ¬(t.fsm = .idle ∧ t.err = .ok)) (exec .readBit s))
      ∧ ∃ s : State, s.fsm ≠ .start ∧ reaches (fun t => t.fsm ≠ .idle) (exec .readBit s) :=
  ⟨⟨{ running .readBit (.wait .bitLow) false with pcnt := 55#9 }, by decide, reaches_intro rfl (by decide)⟩,
    ⟨running .readBit .accept true, by decide, reaches_intro rfl (by decide)⟩⟩

end Sys2Proof.Tests
end

