-- ==== Sys2Proof/Proofs/State.lean ====
section
/-! The state family: the values after reset, and what sets, clears and keeps STATUS.REJ (10_state.md R32, R45). -/

namespace Sys2Proof.Machine

/-! ### Reading and writing a register by its offset -/

/-- A host read at a register's offset reads that register (10_state.md R23, 20_memory.md R47). -/
theorem hostRead_regOffset (r : Reg) (s : State) : hostRead (regOffset r) s = readReg r s := by
  simp only [hostRead, regAt_regOffset]

/-- A host write at a mapped offset writes the register there (10_state.md R23, 20_memory.md R48). -/
theorem hostWrite_of_regAt {off : Offset} {r : Reg} (hr : regAt off = some r) (v : Word) (s : State) :
    hostWrite off v s = writeReg r v s := by
  simp only [hostWrite, hr]

/-- A register write that R48 drops while BUSY = 1 does nothing but set REJ. -/
theorem writeReg_dropped {r : Reg} {s : State} (hd : droppable r = true) (hb : s.busy = true) (v : Word) :
    writeReg r v s = dropWrite s := by
  cases r <;> simp_all [writeReg, unlessBusy, droppable]

/-- A write of CMD while BUSY = 0 is accepted (20_memory.md R48). -/
theorem writeReg_cmd_accepted {s : State} (hb : s.busy = false) (v : Word) :
    writeReg .cmd v s = acceptWord v s := by
  simp only [writeReg, unlessBusy, hb, Bool.false_eq_true, if_false]

/-- A host write that completes is the register write at its offset (20_memory.md R48). -/
theorem applyEvent_hostWrite_next {a : Access} {v : Word} {s t : State}
    (h : applyEvent (.hostWrite a v) s = .next t) : t = hostWrite a.off v s := by
  simp only [applyEvent, hostWriteEvent] at h
  split at h
  · cases h; rfl
  · cases h

/-! ### The updates that keep REJ -/

@[simp] theorem writeCtrl_rej (v : Word) (s : State) : (writeCtrl v s).rej = s.rej := rfl
@[simp] theorem writeTiming0_rej (v : Word) (s : State) : (writeTiming0 v s).rej = s.rej := rfl
@[simp] theorem writeTiming1_rej (v : Word) (s : State) : (writeTiming1 v s).rej = s.rej := rfl
@[simp] theorem writeFrame_rej (k : Fin 8) (v : Word) (s : State) : (writeFrame k v s).rej = s.rej := rfl
@[simp] theorem resetBlock_rej (s : State) : (resetBlock s).rej = false := rfl
@[simp] theorem commitFrame_rej (s : State) : (commitFrame s).rej = s.rej := rfl

@[simp] theorem dwell_rej (w : Phase) (s : State) : (dwell w s).rej = s.rej := by
  obtain ⟨-, e⟩ | ⟨-, e⟩ := dwell_cases w s <;> simp [e]

@[simp] theorem enterPhase_rej (w : Phase) (s : State) : (enterPhase w s).rej = s.rej :=
  dwell_rej w { s with fsm := .wait w }

@[simp] theorem startTick_rej (s : State) : (startTick s).rej = s.rej := by
  obtain ⟨-, e⟩ | ⟨-, e⟩ := startTick_cases s <;> rw [e]

@[simp] theorem checkSum8_rej (s : State) : (checkSum8 s).rej = s.rej := by
  by_cases h : s.frame[4] = sum8 s.frame[0] s.frame[1] s.frame[2] s.frame[3]
  · simp [checkSum8_match h]
  · simp [checkSum8_mismatch h]

@[simp] theorem checkCrc16_rej (s : State) : (checkCrc16 s).rej = s.rej := by
  by_cases h : crc16 (crcInput s.frame) = crcField s.frame
  · simp [checkCrc16_match h]
  · simp [checkCrc16_mismatch h]

@[simp] theorem frameDone_rej (s : State) : (frameDone s).rej = s.rej := by
  by_cases h : shiftByte s.shift 4 = shiftSum s.shift
  · simp [frameDone_match h]
  · simp [frameDone_mismatch h]

/-- No tick sets or clears REJ: R32 names only host writes, acceptance and reset. -/
theorem Move.rej_eq {c : Option Instr} {s t : State} (h : Move c s t) : t.rej = s.rej := by
  cases h <;> simp

/-! ### The events that set and clear REJ -/

/-- The event is a write that R48 drops in this state: to one of R32's registers, while BUSY = 1. -/
def DropsWrite (e : Event) (s : State) : Prop :=
  ∃ (a : Access) (v : Word) (r : Reg), e = .hostWrite a v ∧ regAt a.off = some r ∧ droppable r = true ∧ s.busy = true

/-- The event is a reset or the acceptance of a command, the two that clear REJ (10_state.md R32). -/
def ClearsRejection (e : Event) (s : State) : Prop :=
  e = .reset ∨ ∃ (a : Access) (v : Word), e = .hostWrite a v ∧ regAt a.off = some .cmd ∧ s.busy = false

/-- A dropped write sets REJ (10_state.md R32). -/
theorem DropsWrite.sets_rej {e : Event} {s t : State} (hd : DropsWrite e s) (h : applyEvent e s = .next t) :
    t.rej = true := by
  obtain ⟨a, v, r, rfl, hr, hdrop, hb⟩ := hd
  rw [applyEvent_hostWrite_next h, hostWrite_of_regAt hr, writeReg_dropped hdrop hb, dropWrite_rej]

/-- Reset and the acceptance of a command clear REJ (10_state.md R32). -/
theorem ClearsRejection.clears_rej {e : Event} {s t : State} (hc : ClearsRejection e s)
    (h : applyEvent e s = .next t) : t.rej = false := by
  obtain rfl | ⟨a, v, rfl, hr, hb⟩ := hc
  · cases h; exact resetBlock_rej s
  · rw [applyEvent_hostWrite_next h, hostWrite_of_regAt hr, writeReg_cmd_accepted hb, acceptWord_rej]

/-- A host write that is neither dropped nor accepted as a command keeps REJ. -/
theorem hostWrite_keeps_rej {a : Access} {v : Word} {s : State} (hd : ¬ DropsWrite (.hostWrite a v) s)
    (hc : ¬ ClearsRejection (.hostWrite a v) s) : (hostWrite a.off v s).rej = s.rej := by
  obtain ⟨hb, ⟨r, hr, hdrop⟩, -⟩ | ⟨-, e⟩ | ⟨hb, hr, -⟩ | ⟨-, -, e⟩ | ⟨-, -, e⟩ | ⟨-, -, e⟩ | ⟨-, k, -, e⟩ :=
    hostWrite_cases a.off v s
  · exact absurd ⟨a, v, r, rfl, hr, hdrop, hb⟩ hd
  · rw [e]
  · exact absurd (.inr ⟨a, v, rfl, hr, hb⟩) hc
  all_goals simp [e]

/-- Every event but a dropped write, an acceptance and a reset keeps REJ (10_state.md R32). -/
theorem applyEvent_keeps_rej {e : Event} {s t : State} (h : applyEvent e s = .next t) (hd : ¬ DropsWrite e s)
    (hc : ¬ ClearsRejection e s) : t.rej = s.rej := by
  obtain ⟨a, rfl, -, rfl⟩ | ⟨a, v, rfl, -, rfl⟩ | ⟨x, rfl, hm⟩ | ⟨rfl, rfl⟩ := applyEvent_next h
  · rfl
  · exact hostWrite_keeps_rej hd hc
  · exact hm.rej_eq
  · exact absurd (.inl rfl) hc

/-! ### The obligations -/

/-- Settles O19: a dropped write sets REJ, acceptance and reset clear it, and every other event keeps it, so a change of
REJ names its cause. -/
theorem rejectionIsSetOnlyByADroppedWrite : Obligations.RejectionIsSetOnlyByADroppedWrite := by
  intro s t e h
  refine ⟨fun a v r he hr hdrop hb => DropsWrite.sets_rej ⟨a, v, r, he, hr, hdrop, hb⟩ h, fun h0 h1 => ?_,
    fun hc => ClearsRejection.clears_rej hc h, fun h1 h0 => ?_⟩
  · show DropsWrite e s
    by_contra hd
    by_cases hc : ClearsRejection e s
    · simp [hc.clears_rej h] at h1
    · simp [applyEvent_keeps_rej h hd hc, h0] at h1
  · show ClearsRejection e s
    by_contra hc
    by_cases hd : DropsWrite e s
    · simp [hd.sets_rej h] at h0
    · simp [applyEvent_keeps_rej h hd hc, h1] at h0

/-- Every byte of FRAME reads 0 after reset (10_state.md R45). -/
theorem readReg_frame_reset (k : Fin 8) : readReg (.frame k) State.reset = 0#32 := by
  simp [readReg, State.reset]

/-- Settles O6: the registers as a host reads them and the hidden state by field; FRAME is one lemma for its eight bytes. -/
theorem resetValues : Obligations.ResetValues := by
  refine ⟨rfl, rfl, rfl, rfl, rfl, rfl, rfl, rfl, fun k => ?_, rfl, rfl, rfl, rfl, rfl, rfl, rfl, rfl⟩
  rw [hostRead_regOffset, readReg_frame_reset]

end Sys2Proof.Machine
end

