-- ==== Sys2Proof/Proofs/Memory.lean ====
section
/-! The register interface and the received frame: what a host access reads and writes, which accesses have a meaning, and
where the bits of a frame land (20_memory.md R46 to R51). -/

namespace Sys2Proof.Machine

/-! ### Accesses: the defined ones complete, the others are refused (R46, R49) -/

/-- A defined access is a whole aligned one (20_memory.md R49). -/
theorem access_wf_iff (a : Access) : a.wf = true ↔ a.width = .word ∧ a.off.toNat % 4 = 0 := by
  simp [Access.wf]

/-- A step on a defined read gives the host the value and changes nothing of the block (20_memory.md R47). -/
theorem step_hostRead {s : State} {a : Access} {rest : List Event} (h : s.inputs = .hostRead a :: rest)
    (hw : a.wf = true) : step s = .next { s with inputs := rest, reads := hostRead a.off s :: s.reads } := by
  have hr : hostRead a.off { s with inputs := rest } = hostRead a.off s := hostRead_congr a.off rfl
  rw [step_listed h]
  simp only [applyEvent, hostReadEvent, hw, if_true, hr]

/-- A step on a defined write is that write of the state without the event (20_memory.md R48). -/
theorem step_hostWrite {s : State} {a : Access} {v : Word} {rest : List Event}
    (h : s.inputs = .hostWrite a v :: rest) (hw : a.wf = true) :
    step s = .next (hostWrite a.off v { s with inputs := rest }) := by
  rw [step_listed h]
  simp only [applyEvent, hostWriteEvent, hw, if_true]

/-- A step on an undefined access is refused by name (20_memory.md R49). -/
theorem step_undefinedAccess {s : State} {a : Access} {v : Word} {rest : List Event}
    (h : s.inputs = .hostRead a :: rest ∨ s.inputs = .hostWrite a v :: rest) (hw : ¬ a.wf = true) :
    step s = .refused (.accessNotDefined a) := by
  obtain h | h := h
  · rw [step_listed h]; exact if_neg hw
  · rw [step_listed h]; exact if_neg hw

/-! ### Offsets with no register, and addresses outside the window (R50) -/

/-- An offset with no register reads 0 (20_memory.md R50). -/
theorem hostRead_unmapped {off : Offset} (h : regAt off = none) (s : State) : hostRead off s = 0#32 := by
  simp only [hostRead, h]

/-- An offset with no register ignores a write (20_memory.md R50). -/
theorem hostWrite_unmapped {off : Offset} (h : regAt off = none) (v : Word) (s : State) : hostWrite off v s = s := by
  simp only [hostWrite, h]

/-- An address outside the 128 bytes from the base has no offset in the window (20_memory.md R50). -/
theorem windowOffset_outside {base addr : Nat} (h : addr < base ∨ base + 128 ≤ addr) : windowOffset base addr = none :=
  if_neg (by simp only [Config.windowBytes]; omega)

/-! ### The registers as numbers (R47) -/

/-- STATUS as a number (10_state.md R29, 20_memory.md R47). -/
theorem statusWord_toNat (s : State) :
    (statusWord s).toNat = s.busy.toNat + 2 * s.done.toNat + 4 * s.rej.toNat + 2 ^ 4 * (errCode s.err).toNat
      + 2 ^ 8 * (stageCode s.stage).toNat + 2 ^ 16 * s.bitcnt.toNat + 2 ^ 24 * (fsmCode s.fsm).toNat := by
  simp only [statusWord, append_toNat, BitVec.toNat_ofBool, BitVec.toNat_ofNat]
  omega

/-- CTRL as a number (10_state.md R25, 20_memory.md R47). -/
theorem readReg_ctrl_toNat (s : State) : (readReg .ctrl s).toNat = s.en.toNat + 2 * s.signed.toNat := by
  simp only [readReg, append_toNat, BitVec.toNat_ofBool, BitVec.toNat_ofNat]
  omega

/-- TIMING0 as a number (10_state.md R35, 20_memory.md R47). -/
theorem readReg_timing0_toNat (s : State) :
    (readReg .timing0 s).toNat = s.tBitLowMax.toNat + 2 ^ 8 * s.tBitHighMax.toNat + 2 ^ 16 * s.tOne.toNat
      + 2 ^ 24 * s.startLowMs.toNat := by
  simp only [readReg, append_toNat]
  omega

/-- TIMING1 as a number (10_state.md R36, 20_memory.md R47). -/
theorem readReg_timing1_toNat (s : State) :
    (readReg .timing1 s).toNat = s.tReleaseMax.toNat + 2 ^ 8 * s.tRespLowMax.toNat + 2 ^ 16 * s.tRespHighMax.toNat := by
  simp only [readReg, append_toNat, BitVec.toNat_ofNat]
  omega

/-- BITRES as a number (10_state.md R37, 20_memory.md R47). -/
theorem readReg_bitres_toNat (s : State) :
    (readReg .bitres s).toNat = s.bitres.value.toNat + 2 ^ 8 * s.bitres.lowcnt.toNat
      + 2 ^ 16 * s.bitres.highcnt.toNat := by
  simp only [readReg, append_toNat, BitVec.toNat_ofBool, BitVec.toNat_ofNat]
  omega

/-- TEMP as a number (10_state.md R39, 20_memory.md R47). -/
theorem readReg_temp_toNat (s : State) :
    (readReg .temp s).toNat = s.temp.mag.toNat + 2 ^ 16 * s.temp.neg.toNat := by
  simp only [readReg, append_toNat, BitVec.toNat_ofBool, BitVec.toNat_ofNat]
  omega

/-- A field with zeros above it reads as itself: HUM, FRAMEk and CALC (10_state.md R38, R39). -/
theorem zero_append_toNat {m n : Nat} (x : BitVec n) : (0#m ++ x).toNat = x.toNat := by
  simp only [append_toNat, BitVec.toNat_ofNat, Nat.zero_mod, Nat.zero_mul, Nat.zero_add]

/-! ### What a write of a register does (R48) -/

/-- A host write at a register's offset writes that register (10_state.md R23, 20_memory.md R48). -/
theorem hostWrite_regOffset (r : Reg) (v : Word) (s : State) : hostWrite (regOffset r) v s = writeReg r v s :=
  hostWrite_of_regAt (regAt_regOffset r) v s

/-- A guarded write is taken while BUSY = 0 (20_memory.md R48). -/
theorem unlessBusy_taken {s : State} (hb : s.busy = false) (write : State → State) : unlessBusy write s = write s := by
  simp only [unlessBusy, hb, Bool.false_eq_true, if_false]

/-- A read-only register ignores a write at any time (20_memory.md R48). -/
theorem writeReg_readOnly {r : Reg} (hd : droppable r = false) (v : Word) (s : State) : writeReg r v s = s :=
  match r, hd with
  | .status, _ | .bitres, _ | .hum, _ | .temp, _ | .calcReg, _ => rfl

/-- The RSVD latch as a test on the word's number (20_memory.md R48, 30_encoding.md R60). -/
theorem reservedBits_eq_decide (v : Word) : reservedBits v = decide (v.toNat / 16 ≠ 0) := by
  rw [Bool.eq_iff_iff, reservedBits_iff, decide_eq_true_iff]
  omega

/-! ### The bits of a received frame (R51) -/

/-- The bit received last, the head of `bits`, is bit 0 of SHIFT, and each bit before it is one place higher
(40_line_commands.md R85). -/
theorem foldr_shiftIn_getLsbD (bits : List Bool) (s : State) {j : Nat} (hj : j < 40) (h : j < bits.length) :
    (bits.foldr shiftIn s).shift.getLsbD j = bits[j] := by
  induction bits generalizing j with
  | nil => exact absurd h (Nat.not_lt_zero j)
  | cons b bits ih =>
    cases j with
    | zero => simp
    | succ j =>
      have hj' : j < 40 := Nat.lt_of_succ_lt hj
      simpa [hj, hj'] using ih hj' (Nat.lt_of_succ_lt_succ h)

/-- Bit `j` of byte `k` of a frame in SHIFT (40_line_commands.md R86). -/
theorem shiftByte_getLsbD (sh : BitVec 40) (k : Nat) {j : Nat} (hj : j < 8) :
    (shiftByte sh k).getLsbD j = sh.getLsbD (32 - 8 * k + j) := by
  simp [shiftByte, hj]

/-- FRAME[0..4] are the five bytes of SHIFT (40_line_commands.md R87). -/
theorem frameOfShift_getElem (sh : BitVec 40) (f : Vector Byte 8) {k : Nat} (hk : k < 5) :
    (frameOfShift sh f)[k] = shiftByte sh k :=
  match k, hk with
  | 0, _ | 1, _ | 2, _ | 3, _ | 4, _ => rfl

/-! ### The obligations -/

/-- Settles O40: bit `i` is bit `39 - i` of SHIFT, which is bit `7 - i % 8` of byte `i / 8`. -/
theorem frameBitsArriveMostSignificantFirst : Obligations.FrameBitsArriveMostSignificantFirst := by
  intro s bits i
  have hi := i.isLt
  have hj : 32 - 8 * (i.val / 8) + (7 - i.val % 8) = 39 - i.val := by omega
  rw [frameOfShift_getElem _ _ (by omega), shiftByte_getLsbD _ _ (by omega), hj, List.foldl_eq_foldr_reverse,
    foldr_shiftIn_getLsbD _ _ (by omega) (by simp; omega)]
  simp [show 40 - 1 - (39 - i.val) = i.val by omega]

/-- Settles O12: the step on a defined read, and each register's word as a number. -/
theorem hostReadReturnsTheRegister : Obligations.HostReadReturnsTheRegister := by
  refine ⟨fun s off rest h hoff => step_hostRead h ((access_wf_iff _).2 ⟨rfl, hoff⟩), fun s => ?_⟩
  exact ⟨readReg_ctrl_toNat s, rfl, statusWord_toNat s, readReg_timing0_toNat s, readReg_timing1_toNat s,
    readReg_bitres_toNat s, zero_append_toNat s.hum, readReg_temp_toNat s,
    fun k => (congrArg BitVec.toNat (hostRead_regOffset (.frame k) s)).trans (zero_append_toNat s.frame[k]),
    zero_append_toNat s.calcValue, fun off h => hostRead_unmapped (regAt_unmapped h) s⟩

/-- Settles O13: the step on a defined write, a taken write of each register, the drop, and the ignored writes. -/
theorem hostWriteOfEveryRegister : Obligations.HostWriteOfEveryRegister := by
  refine ⟨fun s off v rest h hoff => step_hostWrite h ((access_wf_iff _).2 ⟨rfl, hoff⟩), fun s v =>
    ⟨fun hb => ?_, fun hb off r hr hd => ?_, fun off r hr hd => ?_, fun off hr => hostWrite_unmapped hr v s⟩⟩
  · have taken (r : Reg) {write : State → State} (hw : writeReg r v s = unlessBusy write s) :
        hostWrite (regOffset r) v s = write s := by
      rw [hostWrite_regOffset, hw, unlessBusy_taken hb]
    refine ⟨?_, taken .ctrl rfl, taken .timing0 rfl, taken .timing1 rfl, fun k => taken (.frame k) rfl⟩
    rw [← reservedBits_eq_decide]
    exact taken .cmd rfl
  · rw [hostWrite_of_regAt hr, writeReg_dropped hd hb]; rfl
  · rw [hostWrite_of_regAt hr, writeReg_readOnly hd]

/-- Settles O16: an access is defined exactly where it is whole and aligned. -/
theorem onlyWholeAlignedAccessesComplete : Obligations.OnlyWholeAlignedAccessesComplete := by
  intro s a v rest h
  rw [← access_wf_iff]
  refine ⟨fun hw => ?_, step_undefinedAccess h⟩
  obtain h | h := h
  · exact ⟨_, step_hostRead h hw⟩
  · exact ⟨_, step_hostWrite h hw⟩

/-- Settles O17: the offsets from 0x44 on hold no register, and the other addresses no offset. -/
theorem unmappedOffsetsReadZeroAndIgnoreWrites : Obligations.UnmappedOffsetsReadZeroAndIgnoreWrites := by
  refine ⟨fun s off v rest hoff ha => ?_, fun width v addr h => ?_⟩
  · have hw : Access.wf { width := .word, off := off } = true := (access_wf_iff _).2 ⟨rfl, ha⟩
    have hr : regAt off = none := regAt_unmapped hoff
    exact ⟨fun h => by rw [step_hostRead h hw, hostRead_unmapped hr],
      fun h => by rw [step_hostWrite h hw, hostWrite_unmapped hr]⟩
  · simp only [platformRead, platformWrite, windowOffset_outside h, Option.map_none, and_self]

end Sys2Proof.Machine
end

section
/-! The encoding family: how the ACCEPT tick ends a word that is no command, by its reserved bits or by its reserved OP
(30_encoding.md R62, R63). -/

namespace Sys2Proof.Machine

/-! ### The ACCEPT tick of a command (40_line_commands.md R73) -/

/-- A line command ends with NOT_INIT while EN = 0, before any other check (60_exceptions.md R125). -/
theorem exec_accept_notInit {i : Instr} {s : State} (hi : i = .readFrame ∨ i = .readBit) (hf : s.fsm = .accept)
    (he : s.en = false) : exec i s = .next (finish .notInit s) := by
  obtain rfl | rfl := hi
  · exact (fsmTick_accept hf).trans (acceptCommand_notInit he)
  · exact (fsmTick_accept hf).trans (acceptCommand_notInit he)

/-- A command with reserved bits that EN does not stop ends with INVALID_ARG (30_encoding.md R62). -/
theorem exec_accept_invalidArg {i : Instr} {s : State} (he : i = .readFrame ∨ i = .readBit → s.en = true)
    (hf : s.fsm = .accept) (hr : s.rsvd = true) : exec i s = .next (finish .invalidArg s) := by
  cases i with
  | readFrame => exact (fsmTick_accept hf).trans (acceptCommand_invalidArg (fun _ => he (.inl rfl)) hr)
  | readBit => exact (fsmTick_accept hf).trans (acceptCommand_invalidArg (fun _ => he (.inr rfl)) hr)
  | checkSum8 => exact (fsmTick_accept hf).trans (acceptCommand_invalidArg nofun hr)
  | checkCrc16 => exact (fsmTick_accept hf).trans (acceptCommand_invalidArg nofun hr)

/-! ### The ACCEPT tick of the latched OP (R62, R63) -/

/-- A tick whose latch names no command follows the reserved-OP rule (30_encoding.md R63). -/
theorem tickEvent_reservedOp {x : Level} {s : State} (h : commandOf s.op = none) :
    tickEvent x s = reservedOpTick { s with line := x } := by
  simp only [tickEvent, runTick, h]

/-- The OPs of the line commands (30_encoding.md R61). -/
theorem commandOf_line_iff (op : BitVec 4) :
    (commandOf op = some .readFrame ∨ commandOf op = some .readBit) ↔ (op.toNat = 1 ∨ op.toNat = 2) := by
  revert op; decide

/-- `Move.notInit` as an equation: the ACCEPT tick of a line command with EN = 0. -/
theorem tickEvent_accept_notInit {x : Level} {s : State} (hf : s.fsm = .accept)
    (hc : commandOf s.op = some .readFrame ∨ commandOf s.op = some .readBit) (he : s.en = false) :
    tickEvent x s = .next (finish .notInit { s with line := x }) := by
  obtain hc | hc := hc
  · exact (tickEvent_command hc).trans (exec_accept_notInit (.inl rfl) hf he)
  · exact (tickEvent_command hc).trans (exec_accept_notInit (.inr rfl) hf he)

/-- `Move.invalidArg` as an equation: the ACCEPT tick of a reserved OP, or of a command with reserved bits that EN does
not stop. -/
theorem tickEvent_accept_invalidArg {x : Level} {s : State} (hf : s.fsm = .accept)
    (hr : commandOf s.op = none ∨ s.rsvd = true)
    (he : commandOf s.op = some .readFrame ∨ commandOf s.op = some .readBit → s.en = true) :
    tickEvent x s = .next (finish .invalidArg { s with line := x }) := by
  cases hc : commandOf s.op with
  | none => exact (tickEvent_reservedOp hc).trans (fsmTick_accept hf)
  | some i =>
    have hr : s.rsvd = true := hr.resolve_left (by simp [hc])
    rw [hc, Option.some_inj, Option.some_inj] at he
    exact (tickEvent_command hc).trans (exec_accept_invalidArg he hf hr)

/-! ### The obligations -/

/-- Settles O24: the write is the acceptance of the word, and the ACCEPT tick tests EN before RSVD. -/
theorem reservedBitsEndWithInvalidArg : Obligations.ReservedBitsEndWithInvalidArg := by
  intro s v x hb hv
  have hw : hostWrite 0x04#7 v s = acceptWord v s := (hostWrite_regOffset .cmd v s).trans (writeReg_cmd_accepted hb v)
  have hr : (acceptWord v s).rsvd = true := (reservedBits_iff v).2 hv
  have hline : (commandOf (acceptWord v s).op = some .readFrame ∨ commandOf (acceptWord v s).op = some .readBit)
      ↔ (v.toNat % 16 = 1 ∨ v.toNat % 16 = 2) := by
    rw [commandOf_line_iff, acceptWord_op, opOf_toNat]
  rw [hw]
  refine ⟨rfl, hr, rfl, ?_⟩
  by_cases hc : (v.toNat % 16 = 1 ∨ v.toNat % 16 = 2) ∧ s.en = false
  · rw [if_pos hc]
    exact tickEvent_accept_notInit rfl (hline.2 hc.1) hc.2
  · rw [if_neg hc]
    refine tickEvent_accept_invalidArg rfl (.inr hr) fun hl => ?_
    exact Bool.eq_true_of_not_eq_false fun he => hc ⟨hline.1 hl, he⟩

/-- Settles O25: a reserved OP names no command, so neither EN nor the line is tested. -/
theorem reservedOpEndsWithInvalidArg : Obligations.ReservedOpEndsWithInvalidArg := by
  intro s x rest h hop hf
  have hc : commandOf s.op = none := (commandOf_eq_none s.op).2 hop
  rw [step_listed h]
  exact tickEvent_accept_invalidArg hf (.inl hc) (by simp [hc])

end Sys2Proof.Machine
end

section
/-! The line commands: READ_BIT's bound, the start pulse of READ_FRAME, and the end of its 40th bit
(40_line_commands.md R79, R81, R86, R87). -/

namespace Sys2Proof.Machine

/-- A tick while OP is 0x2 is one of READ_BIT (30_encoding.md R61). -/
theorem tickEvent_readBit {x : Level} {s : State} (hop : s.op = 2#4) :
    tickEvent x s = exec .readBit { s with line := x } :=
  tickEvent_command (by rw [hop]; rfl)

/-- A tick while OP is 0x1 is one of READ_FRAME (30_encoding.md R61). -/
theorem tickEvent_readFrame {x : Level} {s : State} (hop : s.op = 1#4) :
    tickEvent x s = exec .readFrame { s with line := x } :=
  tickEvent_command (by rw [hop]; rfl)

/-! ### A tick of READ_BIT in each FSM state (40_line_commands.md R72, R77, R78) -/

/-- A READ_BIT that gets past the ACCEPT checks enters the phase of the sample's level with both counts 0. -/
theorem exec_readBit_accept {s : State} (hf : s.fsm = .accept) (he : s.en = true) (hr : s.rsvd = false) :
    exec .readBit s
      = .next (enterPhase (if s.line then .bitHigh else .bitLow) { s with pcnt := 0#9, lowcnt := 0#8 }) :=
  (fsmTick_accept hf).trans ((acceptCommand_starts (fun _ => he) hr).trans (readBitAccept_enters s))

/-- A sample at the phase's level is counted. -/
theorem exec_readBit_dwell {s : State} {w : Phase} (hf : s.fsm = .wait w) (hl : s.line = level w) :
    exec .readBit s = .next (dwell w s) :=
  (fsmTick_wait hf).trans (phaseTick_at hl)

/-- A high sample ends the low phase and is the first of the high phase. -/
theorem exec_readBit_lowEnds {s : State} (hf : s.fsm = .wait .bitLow) (hl : s.line = true) :
    exec .readBit s = .next (enterPhase .bitHigh { s with pcnt := 0#9, lowcnt := s.pcnt.setWidth 8 }) :=
  (fsmTick_wait hf).trans (phaseTick_off (by simp [level, hl]))

/-- A low sample ends the high phase, and with it the command. -/
theorem exec_readBit_highEnds {s : State} (hf : s.fsm = .wait .bitHigh) (hl : s.line = false) :
    exec .readBit s = readBitDone s.pcnt { s with pcnt := 0#9 } :=
  (fsmTick_wait hf).trans (phaseTick_bitEnds hl)

/-! ### READ_BIT finishes within its bound (R79) -/

/-- What a host sees of a command that is over: IDLE, BUSY = 0 and DONE = 1 (10_state.md R30, R31). -/
def Finished (s : State) : Prop := s.fsm = .idle ∧ s.busy = false ∧ s.done = true

theorem finish_finished (e : ErrCode) (s : State) : Finished (finish e s) := ⟨rfl, rfl, rfl⟩

theorem timeout_finished (w : Phase) (s : State) : Finished (timeout w s) := finish_finished .timeout _

/-- How many ticks READ_BIT takes at most from the beginning of a phase on: those of its limit and one more, and the tick
that ends the low phase is already the first of the high one. -/
def readBitTicksFrom (w : Phase) (s : State) : Nat :=
  match w with
  | .bitLow => s.tBitLowMax.toNat + s.tBitHighMax.toNat + 1
  | w       => (limit w s).toNat + 1

/-- The bound goes past the phase's own limit. -/
theorem limit_lt_readBitTicksFrom (w : Phase) (s : State) : (limit w s).toNat < readBitTicksFrom w s := by
  cases w with
  | bitLow => simp only [limit, readBitTicksFrom]; omega
  | _ => exact Nat.lt_succ_self _

/-- A READ_BIT past its ACCEPT tick that is over, or will be after at most `n` more ticks: what its phase has counted is
taken off the bound. -/
def ReadBitEndsWithin (n : Nat) (s : State) : Prop :=
  s.op = 2#4 ∧
    (Finished s
      ∨ ∃ w, (w = .bitLow ∨ w = .bitHigh) ∧ s.fsm = .wait w ∧ s.pcnt.toNat ≤ (limit w s).toNat
          ∧ readBitTicksFrom w s ≤ n + s.pcnt.toNat)

/-- No phase is still going on when no tick is left. -/
theorem ReadBitEndsWithin.finished {s : State} (h : ReadBitEndsWithin 0 s) : Finished s := by
  obtain ⟨-, h | ⟨w, -, -, hp, hn⟩⟩ := h
  · exact h
  · have := limit_lt_readBitTicksFrom w s
    omega

/-- A count that has not passed an 8-bit limit goes up by one without wrapping (10_state.md R42). -/
theorem pcnt_succ_toNat {p : BitVec 9} {l : BitVec 8} (h : p.toNat ≤ l.toNat) : (p + 1#9).toNat = p.toNat + 1 := by
  bv_omega

/-- A counted sample uses one tick of the bound, or ends READ_BIT. -/
theorem dwell_endsWithin {n : Nat} {s : State} {w : Phase} (hop : s.op = 2#4) (hw : w = .bitLow ∨ w = .bitHigh)
    (hf : s.fsm = .wait w) (hp : s.pcnt.toNat ≤ (limit w s).toNat)
    (hn : readBitTicksFrom w s ≤ n + 1 + s.pcnt.toNat) : ReadBitEndsWithin n (dwell w s) := by
  have hs := pcnt_succ_toNat hp
  obtain ⟨h, e⟩ | ⟨-, e⟩ := dwell_cases w s
  · have hl : readBitTicksFrom w { s with pcnt := s.pcnt + 1#9 } = readBitTicksFrom w s := by cases w <;> rfl
    have hm : limit w { s with pcnt := s.pcnt + 1#9 } = limit w s := limit_congr w rfl rfl rfl rfl rfl
    rw [e]
    exact ⟨hop, .inr ⟨w, hw, hf, by rw [hm]; exact h, by simp only [hl, hs]; omega⟩⟩
  · rw [e]
    exact ⟨hop, .inl (timeout_finished _ _)⟩

/-- The first sample of a phase is one counted from 0. -/
theorem enterPhase_endsWithin {n : Nat} {s : State} {w : Phase} (hop : s.op = 2#4) (hw : w = .bitLow ∨ w = .bitHigh)
    (h0 : s.pcnt = 0#9) (hn : readBitTicksFrom w s ≤ n + 1) : ReadBitEndsWithin n (enterPhase w s) := by
  have hl : readBitTicksFrom w { s with fsm := .wait w } = readBitTicksFrom w s := by cases w <;> rfl
  exact dwell_endsWithin hop hw rfl (by simp [h0]) (by rw [hl]; exact Nat.le_add_right_of_le hn)

/-- Every tick of READ_BIT past ACCEPT uses one tick of the bound, whatever its sample. -/
theorem ReadBitEndsWithin.tick {n : Nat} {s : State} (h : ReadBitEndsWithin (n + 1) s) (x : Level) :
    ∃ t, tickEvent x s = .next t ∧ ReadBitEndsWithin n t := by
  obtain ⟨hop, ⟨hf, hb, hd⟩ | ⟨w, hw, hf, hp, hn⟩⟩ := h
  · exact ⟨_, tickEvent_idle hf, hop, .inl ⟨hf, hb, hd⟩⟩
  rw [tickEvent_readBit hop]
  by_cases hl : x = level w
  · exact ⟨_, exec_readBit_dwell hf hl, dwell_endsWithin hop hw hf hp hn⟩
  obtain rfl | rfl := hw
  · refine ⟨_, exec_readBit_lowEnds hf (by simpa [level] using hl), enterPhase_endsWithin hop (.inr rfl) rfl ?_⟩
    simp only [readBitTicksFrom, limit] at hn hp ⊢
    omega
  · exact ⟨_, exec_readBit_highEnds hf (by simpa [level] using hl), hop, .inl (finish_finished _ _)⟩

/-- A measure that every tick lowers is used up by a run of that many ticks. -/
theorem runTicks_countdown {P : Nat → State → Prop}
    (hP : ∀ {n s}, P (n + 1) s → ∀ x, ∃ t, tickEvent x s = .next t ∧ P n t) {xs : List Level} {s : State}
    (h : P xs.length s) : ∃ t, runTicks xs s = .next t ∧ P 0 t := by
  induction xs generalizing s with
  | nil => exact ⟨s, rfl, h⟩
  | cons x xs ih =>
    obtain ⟨t, ht, hPt⟩ := hP h x
    rw [runTicks_cons ht]
    exact ih hPt

/-- The ACCEPT tick leaves READ_BIT at most T_BIT_LOW_MAX + T_BIT_HIGH_MAX ticks. -/
theorem readBit_accept_endsWithin {s : State} (hf : s.fsm = .accept) (hop : s.op = 2#4) (he : s.en = true)
    (hr : s.rsvd = false) (x : Level) :
    ∃ t, tickEvent x s = .next t ∧ ReadBitEndsWithin (s.tBitLowMax.toNat + s.tBitHighMax.toNat) t := by
  rw [tickEvent_readBit hop]
  refine ⟨_, exec_readBit_accept (s := { s with line := x }) hf he hr, ?_⟩
  cases x with
  | false => exact enterPhase_endsWithin hop (.inl rfl) rfl le_rfl
  | true => exact enterPhase_endsWithin hop (.inr rfl) rfl (Nat.succ_le_succ (Nat.le_add_left _ _))

/-! ### The start pulse of READ_FRAME (R81) -/

/-- The start pulse is at most 255000 ticks, so `scnt` goes up by one without wrapping (10_state.md R42). -/
theorem scnt_succ_toNat {s : State} (h : s.scnt.toNat + 1 ≤ startTicks s) :
    (s.scnt + 1#18).toNat = s.scnt.toNat + 1 := by
  simp only [startTicks, Config.ticksPerMs] at h
  bv_omega

/-- A START tick before the N-th only counts. -/
theorem exec_readFrame_start_more {s : State} (hf : s.fsm = .start) (h : s.scnt.toNat + 1 < startTicks s) :
    exec .readFrame s = .next { s with scnt := s.scnt + 1#18 } := by
  have hs := scnt_succ_toNat (Nat.le_of_lt h)
  obtain ⟨-, e⟩ | ⟨h', -⟩ := startTick_cases s
  · exact (fsmTick_start hf).trans (congrArg _ e)
  · omega

/-- The N-th START tick releases the line. -/
theorem exec_readFrame_start_last {s : State} (hf : s.fsm = .start) (h : s.scnt.toNat + 1 = startTicks s) :
    exec .readFrame s
      = .next { s with scnt := s.scnt + 1#18, driveLow := false, pcnt := 0#9, fsm := .wait .waitRelease } := by
  have hs := scnt_succ_toNat (Nat.le_of_eq h)
  obtain ⟨h', -⟩ | ⟨-, e⟩ := startTick_cases s
  · omega
  · exact (fsmTick_start hf).trans (congrArg _ e)

/-- The ACCEPT tick of a READ_FRAME with the line high pulls the line low (R80). -/
theorem exec_readFrame_accept_pulse {s : State} (hf : s.fsm = .accept) (he : s.en = true) (hr : s.rsvd = false)
    (hl : s.line = true) (h0 : s.startLowMs ≠ 0#8) :
    exec .readFrame s = .next { s with shift := 0#40, pcnt := 0#9, scnt := 0#18, driveLow := true, fsm := .start } := by
  refine (fsmTick_accept hf).trans ((acceptCommand_starts (fun _ => he) hr).trans ?_)
  simp only [readFrameAccept, hl, Bool.true_eq_false, if_false]
  exact if_neg h0

/-- The ACCEPT tick of READ_FRAME with the line high begins the pulse with none of its ticks counted, and no error. -/
theorem tickEvent_accept_startsPulse {s : State} (hf : s.fsm = .accept) (hop : s.op = 1#4) (he : s.en = true)
    (hr : s.rsvd = false) (h0 : s.startLowMs ≠ 0#8) :
    ∃ t, tickEvent true s = .next t ∧ t.op = 1#4 ∧ t.fsm = .start ∧ t.scnt = 0#18 ∧ t.driveLow = true
      ∧ t.err = s.err ∧ startTicks t = startTicks s := by
  rw [tickEvent_readFrame hop]
  exact ⟨_, exec_readFrame_accept_pulse (s := { s with line := true }) hf he hr rfl h0, hop, rfl, rfl, rfl, rfl, rfl⟩

/-- START ticks that do not reach the N-th count up and change nothing else, whatever the samples. -/
theorem runTicks_start {s : State} (hop : s.op = 1#4) (hf : s.fsm = .start) (xs : List Level)
    (h : s.scnt.toNat + xs.length < startTicks s) :
    ∃ l, runTicks xs s = .next { s with scnt := s.scnt + BitVec.ofNat 18 xs.length, line := l } := by
  induction xs generalizing s with
  | nil => exact ⟨s.line, by simp⟩
  | cons x xs ih =>
    rw [List.length_cons] at h
    have hs := scnt_succ_toNat (s := s) (by omega)
    have ht : tickEvent x s = .next { s with scnt := s.scnt + 1#18, line := x } :=
      (tickEvent_readFrame hop).trans
        (exec_readFrame_start_more (s := { s with line := x }) hf (show s.scnt.toNat + 1 < startTicks s by omega))
    obtain ⟨l, hl⟩ := ih (s := { s with scnt := s.scnt + 1#18, line := x }) hop hf
      (show (s.scnt + 1#18).toNat + xs.length < startTicks s by omega)
    refine ⟨l, ?_⟩
    rw [runTicks_cons ht, hl, List.length_cons, BitVec.ofNat_add, BitVec.add_assoc, BitVec.add_comm (1#18)]

/-- The START ticks up to the N-th release the line, whatever the samples. -/
theorem runTicks_start_last {s : State} (hop : s.op = 1#4) (hf : s.fsm = .start) (xs : List Level) (x : Level)
    (h : s.scnt.toNat + xs.length + 1 = startTicks s) :
    runTicks (xs ++ [x]) s
      = .next
          { s with
            scnt := s.scnt + BitVec.ofNat 18 xs.length + 1#18, line := x
            driveLow := false, pcnt := 0#9, fsm := .wait .waitRelease } := by
  obtain ⟨l, hl⟩ := runTicks_start hop hf xs (by omega)
  have hc : (s.scnt + BitVec.ofNat 18 xs.length).toNat = s.scnt.toNat + xs.length := by
    simp only [startTicks, Config.ticksPerMs] at h
    bv_omega
  rw [runTicks_append hl]
  refine runTicks_cons ((tickEvent_readFrame (by exact hop)).trans ?_)
  exact exec_readFrame_start_last hf ((congrArg (· + 1) hc).trans h)

/-! ### The end of the 40th bit (R85 to R87) -/

/-- A bit enters SHIFT from below (40_line_commands.md R85). -/
theorem shiftIn_shift_eq_ofNat (b : Bool) (s : State) :
    (shiftIn b s).shift = BitVec.ofNat 40 (2 * s.shift.toNat + b.toNat) := by
  apply BitVec.eq_of_toNat_eq
  have hb : ((BitVec.ofBool b).setWidth 40).toNat = b.toNat := by cases b <;> rfl
  have h2 : s.shift <<< 1 &&& (BitVec.ofBool b).setWidth 40 = 0#40 := by ext i; cases i <;> simp
  rw [shiftIn_shift, ← BitVec.add_eq_or_of_and_eq_zero _ _ h2, BitVec.toNat_add, hb, BitVec.toNat_shiftLeft,
    Nat.shiftLeft_eq, BitVec.toNat_ofNat, Nat.mod_add_mod, Nat.mul_comm]

/-- A byte of SHIFT as a number (40_line_commands.md R86). -/
theorem shiftByte_eq_ofNat (sh : BitVec 40) (k : Nat) :
    shiftByte sh k = BitVec.ofNat 8 (sh.toNat / 2 ^ (32 - 8 * k)) := by
  rw [← Nat.shiftRight_eq_div_pow]; rfl

/-- The sum of the first four bytes of SHIFT (40_line_commands.md R86). -/
theorem shiftSum_eq_ofNat (sh : BitVec 40) :
    shiftSum sh = BitVec.ofNat 8 ((shiftByte sh 0).toNat + (shiftByte sh 1).toNat + (shiftByte sh 2).toNat
      + (shiftByte sh 3).toNat) := by
  apply BitVec.eq_of_toNat_eq
  simp [shiftSum, sum8]

/-- The commit writes FRAME[0..4], CALC, HUM and TEMP from the bytes of SHIFT, and ends with OK (40_line_commands.md R87). -/
theorem commitFrame_eq (s : State) :
    commitFrame s = finish .ok
      { s with
        frame := frameOfShift s.shift s.frame
        calcValue := (shiftSum s.shift).setWidth 16
        hum := shiftByte s.shift 0 ++ shiftByte s.shift 1
        temp := temperatureOf s.signed
          { hHi := shiftByte s.shift 0, hLo := shiftByte s.shift 1, tHi := shiftByte s.shift 2,
            tLo := shiftByte s.shift 3 } } := rfl

/-- The low sample that ends the 40th bit runs FrameDone on SHIFT with that bit (40_line_commands.md R85, R86). -/
theorem exec_readFrame_lastBit {s : State} (hf : s.fsm = .wait .bitHigh) (hl : s.line = false)
    (hb : s.bitcnt = 39#6) :
    exec .readFrame s
      = .next (frameDone
          { s with
            shift := BitVec.ofNat 40 (2 * s.shift.toNat + (decide (s.tOne.toNat < s.pcnt.toNat)).toNat)
            bitcnt := 40#6, pcnt := 0#9 }) := by
  have hlast : (s.bitcnt + 1#6).toNat = Config.frameBits := by rw [hb]; rfl
  have hsh : (s.shift <<< 1) ||| (BitVec.ofBool (bitValue s.pcnt s)).setWidth 40
      = BitVec.ofNat 40 (2 * s.shift.toNat + (decide (s.tOne.toNat < s.pcnt.toNat)).toNat) :=
    shiftIn_shift_eq_ofNat (bitValue s.pcnt s) s
  have e : exec .readFrame s = readFrameBitDone s.pcnt { s with pcnt := 0#9 } :=
    (fsmTick_wait hf).trans (phaseTick_bitEnds hl)
  rw [e, readFrameBitDone_last (s := { s with pcnt := 0#9 }) hlast, ← hsh]
  simp only [shiftIn, hb]
  rfl

/-! ### The obligations -/

/-- Settles O35: the ACCEPT tick leaves T_BIT_LOW_MAX + T_BIT_HIGH_MAX ticks, and every tick after it uses one. -/
theorem readBitFinishesWithinItsBound : Obligations.ReadBitFinishesWithinItsBound := by
  refine ⟨fun s xs hf hop he hr hlen => ?_, by decide⟩
  cases xs with
  | nil => simp at hlen
  | cons x xs =>
    obtain ⟨t, ht, hn⟩ := readBit_accept_endsWithin hf hop he hr x
    rw [← Nat.succ.inj hlen] at hn
    obtain ⟨u, hu, h0⟩ := runTicks_countdown ReadBitEndsWithin.tick hn
    exact ⟨u, (runTicks_cons ht).trans hu, h0.finished⟩

/-- Settles O37: the START ticks before the N-th only count, and the N-th releases the line. -/
theorem startPulseLastsItsMilliseconds : Obligations.StartPulseLastsItsMilliseconds := by
  refine ⟨fun s hf => ⟨exec_readFrame_start_more hf, exec_readFrame_start_last hf⟩,
    fun s xs hf hop he hr h0 => ?_⟩
  obtain ⟨t, ht, hop', hf', hc, hd, he', hN⟩ := tickEvent_accept_startsPulse hf hop he hr h0
  rw [startTicks.eq_def s, Config.ticksPerMs] at hN
  rw [runTicks_cons ht]
  refine ⟨fun hlen => ?_, fun hlen => ?_⟩
  · obtain ⟨l, hl⟩ := runTicks_start hop' hf' xs (by simp [hc, hN, hlen])
    exact ⟨_, hl, hd, hf', he'⟩
  · obtain rfl | ⟨ys, y, rfl⟩ := xs.eq_nil_or_concat'
    · exact absurd (BitVec.eq_of_toNat_eq (by simp at hlen ⊢; omega)) h0
    · have hlast : t.scnt.toNat + ys.length + 1 = startTicks t := by simpa [hc, hN] using hlen
      exact ⟨_, runTicks_start_last hop' hf' ys y hlast, rfl, rfl, rfl, he'⟩

/-- Settles O39: the tick is FrameDone on SHIFT with the 40th bit, whose bytes and sum are the statement's. -/
theorem lastBitCommitsOrFails : Obligations.LastBitCommitsOrFails := by
  intro s sh hf hl hb hsh b sum
  have hbyte (k : Nat) : shiftByte sh k = b k := shiftByte_eq_ofNat sh k
  have hsum : shiftSum sh = sum := by rw [shiftSum_eq_ofNat]; simp only [hbyte, sum]
  rw [exec_readFrame_lastBit hf hl hb, ← hsh]
  refine ⟨fun h => ?_, fun h => ?_⟩
  · rw [frameDone_match (by simpa only [hbyte, hsum] using h), commitFrame_eq]
    simp only [frameOfShift, hbyte, hsum, BitVec.ofNat_toNat]
    rfl
  · rw [frameDone_mismatch (by simpa only [hbyte, hsum] using h)]
    rfl

end Sys2Proof.Machine
end

section
/-! The check commands: the ACCEPT tick of CHECK_SUM8 and CHECK_CRC16 by FRAME (41_checksum_commands.md R103 to R105). -/

namespace Sys2Proof.Machine

/-! ### The common end of the two checks -/

/-- The end of a check (41_checksum_commands.md R103, R104): CALC is written either way, the fields only where the
checksum is the one carried. -/
def endCheck (valid : Prop) [Decidable valid] (calcValue : BitVec 16) (v : ValueBytes) (s : State) : State :=
  if valid then finish .ok (latchFields v { s with calcValue := calcValue })
  else finish .invalidChecksum { s with calcValue := calcValue }

theorem endCheck_valid {valid : Prop} [Decidable valid] (h : valid) (c : BitVec 16) (v : ValueBytes) (s : State) :
    endCheck valid c v s = finish .ok (latchFields v { s with calcValue := c }) := if_pos h

theorem endCheck_invalid {valid : Prop} [Decidable valid] (h : ¬ valid) (c : BitVec 16) (v : ValueBytes)
    (s : State) : endCheck valid c v s = finish .invalidChecksum { s with calcValue := c } := if_neg h

theorem checkSum8_eq_endCheck (s : State) :
    checkSum8 s = endCheck (s.frame[4] = sum8 s.frame[0] s.frame[1] s.frame[2] s.frame[3])
      ((sum8 s.frame[0] s.frame[1] s.frame[2] s.frame[3]).setWidth 16) (valueBytes .singleWire s.frame) s := by
  by_cases h : s.frame[4] = sum8 s.frame[0] s.frame[1] s.frame[2] s.frame[3]
  · rw [checkSum8_match h, endCheck_valid h]
  · rw [checkSum8_mismatch h, endCheck_invalid h]

theorem checkCrc16_eq_endCheck (s : State) :
    checkCrc16 s = endCheck (crc16 (crcInput s.frame) = crcField s.frame) (crc16 (crcInput s.frame))
      (valueBytes .bus s.frame) s := by
  by_cases h : crc16 (crcInput s.frame) = crcField s.frame
  · rw [checkCrc16_match h, endCheck_valid h]
  · rw [checkCrc16_mismatch h, endCheck_invalid h]

/-- Of the state it starts in, the end of a check reads SIGNED alone, and that for TEMP (41_checksum_commands.md R105). -/
theorem endCheck_results_congr (valid : Prop) [Decidable valid] (c : BitVec 16) (v : ValueBytes) (s s' : State) :
    (endCheck valid c v s).fsm = .idle ∧ (endCheck valid c v s').fsm = .idle
      ∧ (endCheck valid c v s').err = (endCheck valid c v s).err
      ∧ (endCheck valid c v s').calcValue = (endCheck valid c v s).calcValue
      ∧ ((endCheck valid c v s).err = .ok → (endCheck valid c v s').hum = (endCheck valid c v s).hum
          ∧ (s'.signed = s.signed → (endCheck valid c v s').temp = (endCheck valid c v s).temp)) := by
  by_cases h : valid
  · simp only [endCheck_valid h]
    exact ⟨rfl, rfl, rfl, rfl, fun _ => ⟨rfl, congrArg (temperatureOf · v)⟩⟩
  · simp only [endCheck_invalid h]
    exact ⟨rfl, rfl, rfl, rfl, nofun⟩

/-! ### The ACCEPT tick of a check -/

/-- A CHECK_SUM8 without reserved bits runs whole in its ACCEPT tick; neither EN nor the line is tested. -/
theorem exec_checkSum8_accept {s : State} (hf : s.fsm = .accept) (hr : s.rsvd = false) :
    exec .checkSum8 s = .next (checkSum8 s) :=
  (fsmTick_accept hf).trans (acceptCommand_starts nofun hr)

/-- A CHECK_CRC16 without reserved bits runs whole in its ACCEPT tick; neither EN nor the line is tested. -/
theorem exec_checkCrc16_accept {s : State} (hf : s.fsm = .accept) (hr : s.rsvd = false) :
    exec .checkCrc16 s = .next (checkCrc16 s) :=
  (fsmTick_accept hf).trans (acceptCommand_starts nofun hr)

/-! ### The checksums as numbers -/

/-- Taking the low byte of the sum already takes it modulo 256 (41_checksum_commands.md R100). -/
theorem sum8_eq_ofNat (b0 b1 b2 b3 : Byte) :
    sum8 b0 b1 b2 b3 = BitVec.ofNat 8 (b0.toNat + b1.toNat + b2.toNat + b3.toNat) := by
  apply BitVec.eq_of_toNat_eq
  simp [sum8]

/-- The computed CRC is the carried one exactly when their numbers are equal (41_checksum_commands.md R104). -/
theorem eq_crcField_iff (c : BitVec 16) (f : Vector Byte 8) :
    c = crcField f ↔ c.toNat = f[6].toNat + 256 * f[7].toNat := by
  rw [← BitVec.toNat_inj, crcField_toNat]

/-! ### The obligations -/

/-- Settles O48: both checks are the common end on arguments made of FRAME alone. -/
theorem checksDependOnlyOnTheFrame : Obligations.ChecksDependOnlyOnTheFrame := by
  intro s s' i hi hf hf' hr hr' hframe
  obtain rfl | rfl := hi
  · refine ⟨_, _, exec_checkSum8_accept hf hr, exec_checkSum8_accept hf' hr', ?_⟩
    simp only [checkSum8_eq_endCheck, hframe]
    exact endCheck_results_congr ..
  · refine ⟨_, _, exec_checkCrc16_accept hf hr, exec_checkCrc16_accept hf' hr', ?_⟩
    simp only [checkCrc16_eq_endCheck, hframe]
    exact endCheck_results_congr ..

/-- Settles O43: the ACCEPT tick is CheckSum8 on the sum as a number, or the end for reserved bits. -/
theorem checkSum8ValidatesTheFrame : Obligations.CheckSum8ValidatesTheFrame := by
  refine ⟨?_, fun s hf hr => exec_accept_invalidArg nofun hf hr⟩
  intro s hf hr sum
  have hsum : sum8 s.frame[0] s.frame[1] s.frame[2] s.frame[3] = sum := sum8_eq_ofNat ..
  rw [exec_checkSum8_accept hf hr, BitVec.ofNat_toNat, ← hsum]
  exact ⟨fun h => congrArg _ (checkSum8_match h), fun h => congrArg _ (checkSum8_mismatch h)⟩

/-- Settles O44: the ACCEPT tick is CheckCrc16 on the carried CRC as a number, or the end for reserved bits. -/
theorem checkCrc16ValidatesTheFrame : Obligations.CheckCrc16ValidatesTheFrame := by
  refine ⟨?_, fun s hf hr => exec_accept_invalidArg nofun hf hr⟩
  intro s hf hr crc
  have carried := eq_crcField_iff crc s.frame
  rw [exec_checkCrc16_accept hf hr]
  exact ⟨fun h => congrArg _ (checkCrc16_match (carried.2 h)),
    fun h => congrArg _ (checkCrc16_mismatch (mt carried.1 h))⟩

end Sys2Proof.Machine
end

section
/-! The latched value fields as numbers (42_value_fields.md R111, R112). -/

namespace Sys2Proof.Machine

/-! ### HUM and TEMP of the value bytes -/

/-- Two bytes are a 16-bit value with the high one first, as both raw fields are (42_value_fields.md R111, R112). -/
theorem byte_append_toNat (hi lo : Byte) : (hi ++ lo).toNat = 256 * hi.toNat + lo.toNat := by
  rw [append_toNat]
  omega

theorem humidityOf_toNat (v : ValueBytes) : (humidityOf v).toNat = 256 * v.hHi.toNat + v.hLo.toNat :=
  byte_append_toNat v.hHi v.hLo

/-- With SIGNED = 1 the magnitude is the raw value without its sign bit (42_value_fields.md R112). -/
theorem temperatureOf_signed_mag_toNat (v : ValueBytes) :
    (temperatureOf true v).mag.toNat = (256 * v.tHi.toNat + v.tLo.toNat) % 2 ^ 15 := by
  have hmag : (temperatureOf true v).mag = ((v.tHi ++ v.tLo).extractLsb' 0 15).setWidth 16 := rfl
  rw [hmag, BitVec.toNat_setWidth_of_le (by decide), BitVec.extractLsb'_toNat, Nat.shiftRight_zero,
    byte_append_toNat]

/-- With SIGNED = 1 the sign is bit 15, set from 2^15 on (42_value_fields.md R112). -/
theorem temperatureOf_signed_neg_iff (v : ValueBytes) :
    (temperatureOf true v).neg = true ↔ 2 ^ 15 ≤ 256 * v.tHi.toNat + v.tLo.toNat := by
  have hneg : (temperatureOf true v).neg = (v.tHi ++ v.tLo).msb := (BitVec.msb_eq_getLsbD_last _).symm
  rw [hneg, BitVec.msb_eq_decide, decide_eq_true_iff, byte_append_toNat]

/-- With SIGNED = 0 the magnitude is the whole raw value (42_value_fields.md R112). -/
theorem temperatureOf_unsigned_mag_toNat (v : ValueBytes) :
    (temperatureOf false v).mag.toNat = 256 * v.tHi.toNat + v.tLo.toNat :=
  byte_append_toNat v.tHi v.tLo

theorem temperatureOf_unsigned_neg (v : ValueBytes) : (temperatureOf false v).neg = false := rfl

/-! ### The obligation -/

/-- Settles O50: HUM is the humidity of the bytes, and TEMP their temperature by SIGNED, each as a number. -/
theorem latchedFieldsOfTheBytes : Obligations.LatchedFieldsOfTheBytes := by
  intro v s
  rw [latchFields_hum, latchFields_temp]
  refine ⟨humidityOf_toNat v, fun hs => ?_, fun hs => ?_⟩
  · rw [hs]
    exact ⟨temperatureOf_signed_mag_toNat v, temperatureOf_signed_neg_iff v⟩
  · rw [hs]
    exact ⟨temperatureOf_unsigned_mag_toNat v, temperatureOf_unsigned_neg v⟩

end Sys2Proof.Machine
end

section
/-! Reset: one event gives the block its state after reset, whatever was running (70_reset_and_hazards.md R140). -/

namespace Sys2Proof.Machine

/-- A step on a listed reset always completes, and resets the block of the state without the event; no `Finish` runs
(70_reset_and_hazards.md R140). -/
theorem step_reset {s : State} {rest : List Event} (h : s.inputs = .reset :: rest) :
    step s = .next (resetBlock { s with inputs := rest }) := by
  rw [step_listed h]
  rfl

/-- After a reset all but the line, the events and the host's record is as `State.reset` has it (10_state.md R45). -/
theorem resetBlock_eq_reset (s : State) :
    resetBlock s = { State.reset with
      line := (resetBlock s).line, inputs := (resetBlock s).inputs,
      envCount := (resetBlock s).envCount, reads := (resetBlock s).reads } := rfl

/-- Settles O7: the step on a listed reset is `resetBlock`, which starts from `State.reset` and keeps only what is not
the block's. -/
theorem resetEventRestoresReset : Obligations.ResetEventRestoresReset := by
  intro s rest h
  exact ⟨_, step_reset h, resetBlock_eq_reset _⟩

end Sys2Proof.Machine
end

section
/-! The invariant of the block: what it says in each FSM state, and that every event keeps it
(10_state.md R30 to R34, R40 to R42, 60_exceptions.md R133). -/

namespace Sys2Proof.Machine

/-! ### What the invariant says in each FSM state -/

/-- The ranges that hold in every FSM state (10_state.md R34, R42, 42_value_fields.md R112). -/
structure InRange (s : State) : Prop where
  pcnt_max : s.pcnt.toNat ≤ 256
  scnt_max : s.scnt.toNat ≤ 255000
  bitcnt_max : s.bitcnt.toNat ≤ 40
  temp_mag : s.temp.neg = true → s.temp.mag.toNat < 2 ^ 15

/-- STATUS while a command runs (10_state.md R30, R31, R33, R34). -/
structure StatusRuns (s : State) : Prop where
  busy : s.busy = true
  not_done : s.done = false
  no_err : s.err = .ok
  no_stage : s.stage = none

/-- The invariant in IDLE. -/
structure AtRest (s : State) : Prop extends InRange s where
  not_busy : s.busy = false
  released : s.driveLow = false
  done_of_err : s.err ≠ .ok → s.done = true
  stage_iff : s.stage.isSome = true ↔ s.err = .timeout

/-- The invariant in the timed wait `w`. -/
structure InPhase (w : Phase) (s : State) : Prop extends InRange s, StatusRuns s where
  released : s.driveLow = false
  enabled : s.en = true ∧ s.rsvd = false
  pcnt_le : s.pcnt.toNat ≤ (limit w s).toNat
  lowcnt_le : w = .bitHigh → s.lowcnt.toNat ≤ s.tBitLowMax.toNat
  command :
    (s.op = 1#4 ∧ s.bitcnt.toNat < 40 ∧ s.shift.toNat < 2 ^ s.bitcnt.toNat ∧ (w.isHandshake = true → s.bitcnt = 0#6))
      ∨ (s.op = 2#4 ∧ s.bitcnt = 0#6 ∧ w.isHandshake = false)

theorem BlockInv.inRange {s : State} (h : BlockInv s) : InRange s :=
  ⟨h.pcnt_max, h.scnt_max, h.bitcnt_max, h.temp_mag⟩

/-- STATUS.STAGE is 0 where no TIMEOUT stands in ERR (10_state.md R34). -/
theorem BlockInv.stage_none {s : State} (h : BlockInv s) (he : s.err ≠ .timeout) : s.stage = none :=
  Option.not_isSome_iff_eq_none.1 (mt h.stage_iff.1 he)

theorem BlockInv.statusRuns {s : State} (h : BlockInv s) (hf : s.fsm ≠ .idle) : StatusRuns s := by
  have hb := h.busy_iff.2 hf
  have he := h.ok_of_busy hb
  exact ⟨hb, h.not_done_of_busy hb, he, h.stage_none (by simp [he])⟩

theorem BlockInv.released {s : State} (h : BlockInv s) (hf : s.fsm ≠ .start) : s.driveLow = false :=
  Bool.eq_false_iff.2 (mt h.drive_iff.1 hf)

theorem BlockInv.fsm_idle {s : State} (h : BlockInv s) (hb : s.busy = false) : s.fsm = .idle := by
  by_contra hf
  simp [h.busy_iff.2 hf] at hb

theorem BlockInv.atRest {s : State} (h : BlockInv s) (hb : s.busy = false) : AtRest s :=
  { h.inRange, h with not_busy := hb, released := h.released (by simp [h.fsm_idle hb]) }

theorem AtRest.blockInv {s : State} (h : AtRest s) (hf : s.fsm = .idle) : BlockInv s := by
  constructor <;> simp [hf, h.not_busy, h.released, h.stage_iff, h.pcnt_max, h.scnt_max, h.bitcnt_max]
  case done_of_err => exact h.done_of_err
  case temp_mag => exact h.temp_mag

theorem BlockInv.inPhase {w : Phase} {s : State} (h : BlockInv s) (hf : s.fsm = .wait w) : InPhase w s := by
  refine { h.inRange, h.statusRuns (by simp [hf]) with
    released := h.released (by simp [hf]), enabled := h.enabled (by simp [hf]) (by simp [hf])
    pcnt_le := h.pcnt_le w hf, lowcnt_le := fun e => h.lowcnt_le (e ▸ hf), command := ?_ }
  obtain hop | hop := h.bit_op w hf
  · exact .inl ⟨hop, h.bitcnt_frame w hf hop, h.shift_lt w hf hop, fun hw => h.bitcnt_zero (.inr (.inr ⟨w, hf, hw⟩))⟩
  · refine .inr ⟨hop, h.bitcnt_bit w hf hop, Bool.eq_false_iff.2 fun hw => ?_⟩
    simp [h.handshake_op w hf hw] at hop

theorem InPhase.blockInv {w : Phase} {s : State} (h : InPhase w s) (hf : s.fsm = .wait w) : BlockInv s := by
  obtain ⟨hop, hb, hs, hz⟩ | ⟨hop, hb, hw⟩ := h.command
  · constructor <;> simp [hf, h.busy, h.not_done, h.no_err, h.no_stage, h.released, h.enabled, hop, h.pcnt_le,
      h.pcnt_max, h.scnt_max, h.bitcnt_max, hb, hs]
    case lowcnt_le => exact h.lowcnt_le
    case bitcnt_zero => exact hz
    case temp_mag => exact h.temp_mag
  · constructor <;> simp [hf, h.busy, h.not_done, h.no_err, h.no_stage, h.released, h.enabled, hop, h.pcnt_le,
      h.pcnt_max, h.scnt_max, hb, hw]
    case lowcnt_le => exact h.lowcnt_le
    case temp_mag => exact h.temp_mag

/-! ### The shared operations of a tick -/

/-- `Finish` brings the block to rest, with STAGE set only for TIMEOUT (60_exceptions.md R126). -/
theorem finish_inv_of_stage {e : ErrCode} {s : State} (h : InRange s) (hs : s.stage.isSome = true ↔ e = .timeout) :
    BlockInv (finish e s) := by
  have r : AtRest (finish e s) :=
    { pcnt_max := h.pcnt_max, scnt_max := h.scnt_max, bitcnt_max := h.bitcnt_max, temp_mag := h.temp_mag
      not_busy := rfl, released := rfl, done_of_err := fun _ => rfl, stage_iff := hs }
  exact r.blockInv rfl

/-- `Finish` with any error but TIMEOUT keeps the invariant where STAGE is 0. -/
theorem finish_inv {e : ErrCode} {s : State} (h : InRange s) (hs : s.stage = none) (he : e ≠ .timeout) :
    BlockInv (finish e s) :=
  finish_inv_of_stage h (by simp [hs, he])

/-- `Timeout` keeps the invariant (60_exceptions.md R127). -/
theorem timeout_inv {w : Phase} {s : State} (h : InRange s) : BlockInv (timeout w s) :=
  finish_inv_of_stage { h with } (by simp)

/-- A counted sample keeps the invariant: it stays within the limit, or ends the command. -/
theorem dwell_inv {w : Phase} {s : State} (h : InPhase w s) (hf : s.fsm = .wait w) : BlockInv (dwell w s) := by
  have hp := pcnt_succ_toNat h.pcnt_le
  have hmax : (s.pcnt + 1#9).toNat ≤ 256 := by have := h.pcnt_le; omega
  obtain ⟨hle, e⟩ | ⟨-, e⟩ := dwell_cases w s
  · have hl : limit w { s with pcnt := s.pcnt + 1#9 } = limit w s := limit_congr w rfl rfl rfl rfl rfl
    have p : InPhase w { s with pcnt := s.pcnt + 1#9 } := { h with pcnt_max := hmax, pcnt_le := hl ▸ hle }
    rw [e]
    exact p.blockInv hf
  · rw [e]
    exact timeout_inv { h with pcnt_max := hmax }

/-- A phase is entered with count 0, and its first sample is counted (40_line_commands.md R77). -/
theorem enterPhase_inv {w : Phase} {s : State} (h : InPhase w { s with fsm := .wait w }) : BlockInv (enterPhase w s) :=
  dwell_inv h rfl

/-- A temperature latched as negative has bit 15 cut off (42_value_fields.md R112). -/
theorem temperatureOf_mag_lt {signed : Bool} {v : ValueBytes} (h : (temperatureOf signed v).neg = true) :
    (temperatureOf signed v).mag.toNat < 2 ^ 15 := by
  cases signed with
  | false => simp [temperatureOf_unsigned_neg] at h
  | true =>
    rw [temperatureOf_signed_mag_toNat]
    exact Nat.mod_lt _ (by decide)

/-- Latching the value fields keeps the ranges (42_value_fields.md R113). -/
theorem latchFields_inRange {v : ValueBytes} {s : State} (h : InRange s) : InRange (latchFields v s) :=
  { h with temp_mag := temperatureOf_mag_lt }

/-- Both ends of a check keep the invariant (41_checksum_commands.md R103, R104). -/
theorem endCheck_inv {valid : Prop} [Decidable valid] {c : BitVec 16} {v : ValueBytes} {s : State} (h : InRange s)
    (hs : s.stage = none) : BlockInv (endCheck valid c v s) := by
  by_cases hv : valid
  · rw [endCheck_valid hv]
    exact finish_inv (latchFields_inRange { h with }) hs (by simp)
  · rw [endCheck_invalid hv]
    exact finish_inv { h with } hs (by simp)

/-- Both ends of a frame keep the invariant (40_line_commands.md R86, R87). -/
theorem frameDone_inv {s : State} (h : InRange s) (hs : s.stage = none) : BlockInv (frameDone s) := by
  by_cases hv : shiftByte s.shift 4 = shiftSum s.shift
  · rw [frameDone_match hv]
    exact finish_inv (latchFields_inRange { h with }) hs (by simp)
  · rw [frameDone_mismatch hv]
    exact finish_inv h hs (by simp)

/-! ### The ticks of a line command -/

/-- READ_FRAME enters the release wait with SHIFT empty and nothing counted (40_line_commands.md R80, R81). -/
theorem waitRelease_inPhase {s : State} (hr : InRange s) (hs : StatusRuns s) (hd : s.driveLow = false)
    (he : s.en = true ∧ s.rsvd = false) (hp : s.pcnt = 0#9) (hop : s.op = 1#4) (hb : s.bitcnt = 0#6)
    (hsh : s.shift = 0#40) : InPhase .waitRelease s :=
  { hr, hs with
    released := hd, enabled := he, pcnt_le := by simp [hp], lowcnt_le := by simp
    command := .inl ⟨hop, by simp [hb], by simp [hb, hsh], fun _ => hb⟩ }

/-- READ_BIT enters a bit phase with both counts 0 (40_line_commands.md R78). -/
theorem readBit_inPhase {w : Phase} {s : State} (hr : InRange s) (hs : StatusRuns s) (hd : s.driveLow = false)
    (he : s.en = true ∧ s.rsvd = false) (hp : s.pcnt = 0#9) (hl : s.lowcnt = 0#8) (hop : s.op = 2#4)
    (hb : s.bitcnt = 0#6) (hw : w.isHandshake = false) : InPhase w s :=
  { hr, hs with
    released := hd, enabled := he, pcnt_le := by simp [hp], lowcnt_le := by simp [hl]
    command := .inr ⟨hop, hb, hw⟩ }

/-- The start pulse goes on, or is over and the release wait begins (40_line_commands.md R81). -/
theorem startTick_inv {s : State} (h : BlockInv s) (hf : s.fsm = .start) : BlockInv (startTick s) := by
  have hlt := h.scnt_lt hf
  have hc := scnt_succ_toNat hlt
  have hmax : (s.scnt + 1#18).toNat ≤ 255000 := by
    have := s.startLowMs.isLt
    simp only [startTicks, Config.ticksPerMs] at hlt
    omega
  obtain ⟨hne, e⟩ | ⟨-, e⟩ := startTick_cases s
  · have hn : (s.scnt + 1#18).toNat < startTicks s := by omega
    rw [e]
    exact { h with scnt_lt := fun _ => hn, scnt_max := hmax }
  · rw [e]
    refine InPhase.blockInv (w := .waitRelease) (waitRelease_inPhase ?_ ?_ rfl ?_ rfl ?_ ?_ ?_) rfl
    · exact { h.inRange with pcnt_max := by simp, scnt_max := hmax }
    · exact { h.statusRuns (by simp [hf]) with }
    · exact h.enabled (by simp [hf]) (by simp [hf])
    · exact h.start_op hf
    · exact h.bitcnt_zero (.inr (.inl hf))
    · exact h.shift_start hf

/-- The start pulse begins with SHIFT empty and nothing counted (40_line_commands.md R80). -/
theorem startPulse_inv {s : State} (h : BlockInv s) (hf : s.fsm = .accept) (hop : s.op = 1#4) (he : s.en = true)
    (hr : s.rsvd = false) (h0 : s.startLowMs ≠ 0#8) :
    BlockInv { s with shift := 0#40, pcnt := 0#9, scnt := 0#18, driveLow := true, fsm := .start } := by
  obtain ⟨hb, hd, herr, hst⟩ := h.statusRuns (by simp [hf])
  have hN : 0 < startTicks s := Nat.mul_pos (by bv_omega) (by decide)
  have hbit := h.bitcnt_zero (.inl hf)
  constructor <;> simp [hb, hd, herr, hst, he, hr, hop, hbit]
  case scnt_lt => exact hN
  case temp_mag => exact h.temp_mag

/-- A handshake phase ends into the next phase with count 0 (40_line_commands.md R77). -/
theorem handshake_inPhase {w n : Phase} {s : State} (h : InPhase w s) (hn : afterHandshake w = some n) :
    InPhase n { s with pcnt := 0#9, fsm := .wait n } := by
  have hw : w.isHandshake = true := by cases w <;> simp [afterHandshake] at hn <;> rfl
  obtain ⟨hop, hb, hs, hz⟩ | ⟨-, -, hw'⟩ := h.command
  · exact { h with
      pcnt_max := by simp, pcnt_le := by simp
      lowcnt_le := by rintro rfl; cases w <;> simp [afterHandshake] at hn
      command := .inl ⟨hop, hb, hs, fun _ => hz hw⟩ }
  · simp [hw] at hw'

/-- The low phase of a bit ends into its high phase with count 0, its own count kept (40_line_commands.md R77). -/
theorem lowEnds_inPhase {s : State} (h : InPhase .bitLow s) :
    InPhase .bitHigh { s with pcnt := 0#9, lowcnt := s.pcnt.setWidth 8, fsm := .wait .bitHigh } := by
  have hp : s.pcnt.toNat ≤ s.tBitLowMax.toNat := h.pcnt_le
  exact { h with
    pcnt_max := by simp, pcnt_le := by simp, lowcnt_le := fun _ => by simp; omega
    command := h.command.imp (fun ⟨hop, hb, hs, _⟩ => ⟨hop, hb, hs, nofun⟩) fun ⟨hop, hb, _⟩ => ⟨hop, hb, rfl⟩ }

/-- A bit that is not the last leaves SHIFT one bit longer, and no wider than BITCNT says (40_line_commands.md R85). -/
theorem bitShifted_inPhase {b : Bool} {s : State} (h : InPhase .bitHigh s) (hop : s.op = 1#4)
    (hn : (s.bitcnt + 1#6).toNat ≠ Config.frameBits) :
    InPhase .bitLow { shiftIn b { s with pcnt := 0#9 } with fsm := .wait .bitLow } := by
  obtain ⟨-, hb, hs, -⟩ | ⟨hop', -⟩ := h.command
  · have hc : (s.bitcnt + 1#6).toNat = s.bitcnt.toNat + 1 := by bv_omega
    rw [hc, Config.frameBits] at hn
    have hsh : (shiftIn b { s with pcnt := 0#9 }).shift.toNat < 2 ^ (s.bitcnt + 1#6).toNat := by
      rw [shiftIn_shift_eq_ofNat, BitVec.toNat_ofNat, hc, Nat.pow_succ]
      have := Bool.toNat_le b
      exact (Nat.mod_le _ _).trans_lt (by simp only; omega)
    exact { h with
      pcnt_max := by simp, pcnt_le := by simp, lowcnt_le := nofun
      bitcnt_max := by simp only [shiftIn_bitcnt, hc]; omega
      command := .inl ⟨hop, by simp only [shiftIn_bitcnt, hc]; omega, hsh, nofun⟩ }
  · simp [hop] at hop'

/-- Every move of a tick keeps the invariant. -/
theorem Move.inv {s t : State} (hm : Move (commandOf s.op) s t) (h : BlockInv s) : BlockInv t := by
  have hop {i : Instr} (hc : commandOf s.op = some i) : s.op = opcode i := (commandOf_eq_some s.op i).1 hc
  have rests (hf : s.fsm = .accept) := (h.statusRuns (by simp [hf])).no_stage
  cases hm with
  | idle => exact h
  | notInit hf => exact finish_inv h.inRange (rests hf) (by simp)
  | invalidArg hf => exact finish_inv h.inRange (rests hf) (by simp)
  | invalidResponse hf => exact finish_inv h.inRange (rests hf) (by simp)
  | startPulse hf hc he hr _ h0 => exact startPulse_inv h hf (hop hc) he hr h0
  | noPulse hf hc he hr =>
    refine InPhase.blockInv (w := .waitRelease)
      (waitRelease_inPhase ?_ ?_ (h.released (by simp [hf])) ⟨he, hr⟩ rfl (hop hc) (h.bitcnt_zero (.inl hf)) rfl) rfl
    · exact { h.inRange with pcnt_max := by simp, scnt_max := by simp }
    · exact { h.statusRuns (by simp [hf]) with }
  | sum8 hf => rw [checkSum8_eq_endCheck]; exact endCheck_inv h.inRange (rests hf)
  | crc16 hf => rw [checkCrc16_eq_endCheck]; exact endCheck_inv h.inRange (rests hf)
  | start hf => exact startTick_inv h hf
  | dwell w hf => exact dwell_inv (h.inPhase hf) hf
  | bitStart w hf hc he hr _ hw =>
    refine enterPhase_inv (readBit_inPhase ?_ ?_ (h.released (by simp [hf])) ⟨he, hr⟩ rfl rfl (hop hc)
      (h.bitcnt_zero (.inl hf)) (by obtain rfl | rfl := hw <;> rfl))
    · exact { h.inRange with pcnt_max := by simp }
    · exact { h.statusRuns (by simp [hf]) with }
  | handshake w n hf _ hn =>
    exact enterPhase_inv (s := { s with pcnt := 0#9 }) (handshake_inPhase (s := s) (h.inPhase hf) hn)
  | lowEnds hf => exact enterPhase_inv (lowEnds_inPhase (h.inPhase hf))
  | bitRead hf =>
    exact finish_inv { h.inRange with pcnt_max := by simp, bitcnt_max := by simp } (h.inPhase hf).no_stage (by simp)
  | bitShifted hf hc _ hn => exact enterPhase_inv (bitShifted_inPhase (h.inPhase hf) (hop hc) hn)
  | frameEnds hf hc _ hn =>
    refine frameDone_inv { h.inRange with pcnt_max := by simp, bitcnt_max := ?_ } (h.inPhase hf).no_stage
    exact Nat.le_of_eq hn

/-! ### Every event -/

/-- Every write a host can make keeps the invariant (20_memory.md R48). -/
theorem hostWrite_inv {off : Offset} {v : Word} {s : State} (h : BlockInv s) : BlockInv (hostWrite off v s) := by
  obtain ⟨-, -, e⟩ | ⟨-, e⟩ | ⟨hb, -, e⟩ | ⟨hb, -, e⟩ | ⟨hb, -, e⟩ | ⟨hb, -, e⟩ | ⟨hb, k, -, e⟩ :=
    hostWrite_cases off v s
  · rw [e]; exact { h with }
  · rw [e]; exact h
  · rw [e]
    have hd := (h.atRest hb).released
    constructor <;> simp [hd, h.pcnt_max, h.scnt_max]
    exact h.temp_mag
  · rw [e]; exact AtRest.blockInv { h.atRest hb with } (h.fsm_idle hb)
  · rw [e]; exact AtRest.blockInv { h.atRest hb with } (h.fsm_idle hb)
  · rw [e]; exact AtRest.blockInv { h.atRest hb with } (h.fsm_idle hb)
  · rw [e]; exact AtRest.blockInv { h.atRest hb with } (h.fsm_idle hb)

/-- After reset the block is at rest (10_state.md R45). -/
theorem reset_atRest : AtRest State.reset where
  pcnt_max := by decide
  scnt_max := by decide
  bitcnt_max := by decide
  temp_mag := nofun
  not_busy := rfl
  released := rfl
  done_of_err h := absurd rfl h
  stage_iff := by decide

/-- Taking the next event off the list changes nothing of the block. -/
theorem takeEvent_inv {s : State} (h : BlockInv s) : BlockInv (takeEvent s) := by
  unfold takeEvent
  split
  · exact { h with }
  · exact { h with }

/-- Every event keeps the invariant. -/
theorem applyEvent_inv {e : Event} {s t : State} (h : BlockInv s) (hs : applyEvent e s = .next t) : BlockInv t := by
  obtain ⟨a, -, -, rfl⟩ | ⟨a, v, -, -, rfl⟩ | ⟨x, -, hm⟩ | ⟨-, rfl⟩ := applyEvent_next hs
  · exact { h with }
  · exact hostWrite_inv h
  · exact Move.inv (s := { s with line := x }) hm { h with }
  · exact AtRest.blockInv { reset_atRest with } rfl

/-! ### The obligations -/

/-- Settles O8: the block after reset is at rest. -/
theorem invariantAtReset : Obligations.InvariantAtReset := reset_atRest.blockInv rfl

/-- Settles O9: a step is an event of the state with that event taken off, and neither breaks the invariant. -/
theorem stepKeepsInvariant : Obligations.StepKeepsInvariant :=
  fun _ _ h hs => applyEvent_inv (takeEvent_inv h) hs

end Sys2Proof.Machine
end

section
/-! Every event completes from a state that meets the invariant, but for an access that R49 leaves undefined
(20_memory.md R49, 40_line_commands.md R72). -/

namespace Sys2Proof.Machine

/-! ### Every tick answers, but for the one fault (40_line_commands.md R72) -/

/-- A tick of a command completes if its ACCEPT step and its end of a bit do. -/
theorem fsmTick_next {a : State → Result} {f : BitVec 9 → State → Result} {s : State}
    (ha : s.fsm = .accept → ∃ t, a s = .next t)
    (hf : s.fsm = .wait .bitHigh → ∃ t, f s.pcnt { s with pcnt := 0#9 } = .next t) :
    ∃ t, fsmTick a f s = .next t := by
  cases e : s.fsm with
  | idle => exact ⟨_, fsmTick_idle e⟩
  | accept => rw [fsmTick_accept e]; exact ha e
  | start => exact ⟨_, fsmTick_start e⟩
  | wait w =>
    rw [fsmTick_wait e]
    by_cases hl : s.line = level w
    · exact ⟨_, phaseTick_at hl⟩
    · rw [phaseTick_off hl]
      cases w with
      | bitHigh => exact hf e
      | _ => exact ⟨_, rfl⟩

/-- The ACCEPT checks complete if the command's start does (40_line_commands.md R73). -/
theorem acceptCommand_next {l : Bool} {a : State → Result} {s : State} (ha : ∃ t, a s = .next t) :
    ∃ t, acceptCommand l a s = .next t := by
  unfold acceptCommand
  split
  · exact ⟨_, rfl⟩
  · split
    · exact ⟨_, rfl⟩
    · exact ha

theorem readFrameAccept_next (s : State) : ∃ t, readFrameAccept s = .next t := by
  unfold readFrameAccept
  split
  · exact ⟨_, rfl⟩
  · simp only
    split
    · exact ⟨_, rfl⟩
    · exact ⟨_, rfl⟩

theorem readFrameBitDone_next (h : BitVec 9) (s : State) : ∃ t, readFrameBitDone h s = .next t := by
  by_cases hb : (s.bitcnt + 1#6).toNat = Config.frameBits
  · exact ⟨_, readFrameBitDone_last hb⟩
  · exact ⟨_, readFrameBitDone_more hb⟩

/-- A tick of a line command always completes. -/
theorem exec_line_next {i : Instr} (hi : i = .readFrame ∨ i = .readBit) (s : State) : ∃ t, exec i s = .next t := by
  obtain rfl | rfl := hi
  · exact fsmTick_next (fun _ => acceptCommand_next (readFrameAccept_next s)) fun _ => readFrameBitDone_next _ _
  · exact fsmTick_next (fun _ => acceptCommand_next ⟨_, readBitAccept_enters s⟩) fun _ => ⟨_, rfl⟩

/-- A tick of a command that decodes no bits completes, or faults at the end of a high phase (log 6). -/
theorem fsmTick_noBitDone {a : State → Result} {s : State} (ha : ∃ t, a s = .next t) :
    (∃ t, fsmTick a noBitDone s = .next t)
      ∨ (s.fsm = .wait .bitHigh ∧ fsmTick a noBitDone s = .fault .bitDoneWithoutLineCommand) := by
  by_cases h : s.fsm = .wait .bitHigh ∧ s.line ≠ level .bitHigh
  · refine .inr ⟨h.1, ?_⟩
    rw [fsmTick_wait h.1, phaseTick_off h.2]
    rfl
  · by_cases hf : s.fsm = .wait .bitHigh
    · rw [fsmTick_wait hf, phaseTick_at (not_not.1 fun hl => h ⟨hf, hl⟩)]
      exact .inl ⟨_, rfl⟩
    · exact .inl (fsmTick_next (fun _ => ha) fun e => absurd e hf)

/-- A tick of a check completes, or faults at the end of a high phase. -/
theorem exec_check_next_or_fault {i : Instr} (hi : i = .checkSum8 ∨ i = .checkCrc16) (s : State) :
    (∃ t, exec i s = .next t) ∨ (s.fsm = .wait .bitHigh ∧ exec i s = .fault .bitDoneWithoutLineCommand) := by
  obtain rfl | rfl := hi
  · exact fsmTick_noBitDone (acceptCommand_next ⟨_, rfl⟩)
  · exact fsmTick_noBitDone (acceptCommand_next ⟨_, rfl⟩)

/-- A tick of a reserved OP completes, or faults at the end of a high phase. -/
theorem reservedOpTick_next_or_fault (s : State) :
    (∃ t, reservedOpTick s = .next t)
      ∨ (s.fsm = .wait .bitHigh ∧ reservedOpTick s = .fault .bitDoneWithoutLineCommand) :=
  fsmTick_noBitDone ⟨_, rfl⟩

/-- A tick while the latch names a line command completes. -/
theorem tickEvent_line_next {s : State} (hop : s.op = 1#4 ∨ s.op = 2#4) (x : Level) :
    ∃ t, tickEvent x s = .next t := by
  obtain hop | hop := hop
  · rw [tickEvent_readFrame hop]; exact exec_line_next (.inl rfl) _
  · rw [tickEvent_readBit hop]; exact exec_line_next (.inr rfl) _

/-- A tick of any latched OP completes, or faults at the end of a high phase. -/
theorem tickEvent_next_or_fault (x : Level) (s : State) :
    (∃ t, tickEvent x s = .next t)
      ∨ (s.fsm = .wait .bitHigh ∧ tickEvent x s = .fault .bitDoneWithoutLineCommand) := by
  cases hc : commandOf s.op with
  | none => rw [tickEvent_reservedOp hc]; exact reservedOpTick_next_or_fault _
  | some i =>
    rw [tickEvent_command hc]
    cases i with
    | readFrame => exact .inl (exec_line_next (.inl rfl) _)
    | readBit => exact .inl (exec_line_next (.inr rfl) _)
    | checkSum8 => exact exec_check_next_or_fault (.inl rfl) _
    | checkCrc16 => exact exec_check_next_or_fault (.inr rfl) _

/-- From a state that meets the invariant every tick completes. -/
theorem BlockInv.tick_next {s : State} (h : BlockInv s) (x : Level) : ∃ t, tickEvent x s = .next t := by
  obtain ht | ⟨hf, -⟩ := tickEvent_next_or_fault x s
  · exact ht
  · exact tickEvent_line_next (h.bit_op _ hf) x

/-- An event that has a meaning completes from a state that meets the invariant (20_memory.md R49). -/
theorem BlockInv.event_next {s : State} (h : BlockInv s) {e : Event} (hw : e.wf = true) :
    ∃ t, applyEvent e s = .next t := by
  cases e with
  | hostRead a => exact ⟨_, if_pos hw⟩
  | hostWrite a v => exact ⟨_, if_pos hw⟩
  | tick x => exact h.tick_next x
  | reset => exact ⟨_, rfl⟩

/-- An event without a meaning is an undefined access, refused by name (20_memory.md R49). -/
theorem applyEvent_not_wf {e : Event} (hw : e.wf = false) (s : State) :
    ∃ a : Access, a.wf = false ∧ (e = .hostRead a ∨ ∃ v, e = .hostWrite a v)
      ∧ applyEvent e s = .refused (.accessNotDefined a) := by
  cases e with
  | hostRead a => exact ⟨a, hw, .inl rfl, if_neg (by simpa [Event.wf] using hw)⟩
  | hostWrite a v => exact ⟨a, hw, .inr ⟨v, rfl⟩, if_neg (by simpa [Event.wf] using hw)⟩
  | tick x => simp [Event.wf] at hw
  | reset => simp [Event.wf] at hw

/-- Settles O10: an event with a meaning completes, and one without is an access refused by name. -/
theorem stepStopsOnlyOnUndefinedAccess : Obligations.StepStopsOnlyOnUndefinedAccess := by
  intro s h
  have ht := takeEvent_inv h
  cases hw : (nextEvent s).wf with
  | true =>
    obtain ⟨t, e⟩ := ht.event_next hw
    have e : step s = .next t := e
    exact ⟨by simp [e], by simp [e], fun _ => ⟨t, e⟩⟩
  | false =>
    obtain ⟨a, ha, hev, e⟩ := applyEvent_not_wf hw (takeEvent s)
    have e : step s = .refused (.accessNotDefined a) := e
    refine ⟨by simp [e], fun r hr => ⟨a, ?_, ha, hev⟩, nofun⟩
    rw [e] at hr
    cases hr
    rfl

end Sys2Proof.Machine
end

section
/-! Ticks do not look at the events to come, so a run of ticks is the same as the steps over a list of them
(20_memory.md R55). -/

namespace Sys2Proof.Machine

/-- A result with this list of coming events in its state, if it has one. -/
def withInputs (l : List Event) : Result → Result
  | .next t    => .next { t with inputs := l }
  | .fault r   => .fault r
  | .refused r => .refused r

/-- An operation that neither reads nor changes the list of coming events. -/
def IgnoresInputs (a : State → Result) : Prop :=
  ∀ (l : List Event) (s : State), a { s with inputs := l } = withInputs l (a s)

theorem dwell_withInputs (w : Phase) (s : State) (l : List Event) :
    dwell w { s with inputs := l } = { dwell w s with inputs := l } := by
  obtain ⟨h, e⟩ | ⟨h, e⟩ := dwell_cases w s
  · rw [e]; exact dwell_within (s := { s with inputs := l }) h
  · rw [e]; exact dwell_past (s := { s with inputs := l }) h

theorem enterPhase_withInputs (w : Phase) (s : State) (l : List Event) :
    enterPhase w { s with inputs := l } = { enterPhase w s with inputs := l } :=
  dwell_withInputs w { s with fsm := .wait w } l

theorem startTick_withInputs (s : State) (l : List Event) :
    startTick { s with inputs := l } = { startTick s with inputs := l } := by
  have hN : startTicks { s with inputs := l } = startTicks s := rfl
  obtain ⟨h, e⟩ | ⟨h, e⟩ := startTick_cases s
  · obtain ⟨-, e'⟩ | ⟨h', -⟩ := startTick_cases { s with inputs := l }
    · rw [e, e']
    · exact absurd h' h
  · obtain ⟨h', -⟩ | ⟨-, e'⟩ := startTick_cases { s with inputs := l }
    · exact absurd h h'
    · rw [e, e']

theorem endCheck_withInputs (valid : Prop) [Decidable valid] (c : BitVec 16) (v : ValueBytes) (s : State)
    (l : List Event) : endCheck valid c v { s with inputs := l } = { endCheck valid c v s with inputs := l } := by
  by_cases h : valid
  · rw [endCheck_valid h, endCheck_valid h]; rfl
  · rw [endCheck_invalid h, endCheck_invalid h]; rfl

theorem frameDone_withInputs (s : State) (l : List Event) :
    frameDone { s with inputs := l } = { frameDone s with inputs := l } := by
  by_cases h : shiftByte s.shift 4 = shiftSum s.shift
  · rw [frameDone_match h, frameDone_match (s := { s with inputs := l }) h]; rfl
  · rw [frameDone_mismatch h, frameDone_mismatch (s := { s with inputs := l }) h]; rfl

theorem acceptCommand_ignoresInputs {isLine : Bool} {a : State → Result} (ha : IgnoresInputs a) :
    IgnoresInputs (acceptCommand isLine a) := by
  intro l s
  simp only [acceptCommand]
  split
  · rfl
  · split
    · rfl
    · exact ha l s

theorem exitPhase_ignoresInputs (w : Phase) {f : BitVec 9 → State → Result} (hf : ∀ d, IgnoresInputs (f d)) :
    IgnoresInputs (exitPhase w f) := by
  intro l s
  cases w with
  | bitHigh => exact hf s.pcnt l { s with pcnt := 0#9 }
  | bitLow => exact congrArg _ (enterPhase_withInputs .bitHigh { s with pcnt := 0#9, lowcnt := s.pcnt.setWidth 8 } l)
  | _ => exact congrArg _ (enterPhase_withInputs _ { s with pcnt := 0#9 } l)

theorem phaseTick_ignoresInputs (w : Phase) {f : BitVec 9 → State → Result} (hf : ∀ d, IgnoresInputs (f d)) :
    IgnoresInputs (phaseTick w f) := by
  intro l s
  by_cases h : s.line = level w
  · rw [phaseTick_at h, phaseTick_at (s := { s with inputs := l }) h, dwell_withInputs]; rfl
  · rw [phaseTick_off h, phaseTick_off (s := { s with inputs := l }) h, exitPhase_ignoresInputs w hf]

theorem fsmTick_ignoresInputs {a : State → Result} {f : BitVec 9 → State → Result} (ha : IgnoresInputs a)
    (hf : ∀ d, IgnoresInputs (f d)) : IgnoresInputs (fsmTick a f) := by
  intro l s
  obtain ⟨g, e⟩ : ∃ g, s.fsm = g := ⟨_, rfl⟩
  cases g with
  | idle => rw [fsmTick_idle e, fsmTick_idle (s := { s with inputs := l }) e]; rfl
  | accept => rw [fsmTick_accept e, fsmTick_accept (s := { s with inputs := l }) e, ha]
  | start =>
    rw [fsmTick_start e, fsmTick_start (s := { s with inputs := l }) e, startTick_withInputs]; rfl
  | wait w =>
    rw [fsmTick_wait e, fsmTick_wait (s := { s with inputs := l }) e, phaseTick_ignoresInputs w hf]

theorem readFrameAccept_ignoresInputs : IgnoresInputs readFrameAccept := by
  intro l s
  simp only [readFrameAccept]
  split
  · rfl
  · split
    · rfl
    · rfl

theorem readFrameBitDone_ignoresInputs (d : BitVec 9) : IgnoresInputs (readFrameBitDone d) := by
  intro l s
  by_cases h : (s.bitcnt + 1#6).toNat = Config.frameBits
  · rw [readFrameBitDone_last h, readFrameBitDone_last (s := { s with inputs := l }) h]
    exact congrArg _ (frameDone_withInputs (shiftIn (bitValue d s) s) l)
  · rw [readFrameBitDone_more h, readFrameBitDone_more (s := { s with inputs := l }) h]
    exact congrArg _ (enterPhase_withInputs .bitLow (shiftIn (bitValue d s) s) l)

theorem readBitAccept_ignoresInputs : IgnoresInputs readBitAccept := by
  intro l s
  rw [readBitAccept_enters, readBitAccept_enters]
  exact congrArg _ (enterPhase_withInputs _ { s with pcnt := 0#9, lowcnt := 0#8 } l)

theorem checkSum8_withInputs (s : State) (l : List Event) :
    checkSum8 { s with inputs := l } = { checkSum8 s with inputs := l } := by
  rw [checkSum8_eq_endCheck, checkSum8_eq_endCheck]
  exact endCheck_withInputs ..

theorem checkCrc16_withInputs (s : State) (l : List Event) :
    checkCrc16 { s with inputs := l } = { checkCrc16 s with inputs := l } := by
  rw [checkCrc16_eq_endCheck, checkCrc16_eq_endCheck]
  exact endCheck_withInputs ..

/-- A tick of a command does not depend on the events to come. -/
theorem exec_ignoresInputs (i : Instr) : IgnoresInputs (exec i) := by
  cases i with
  | readFrame =>
    exact fsmTick_ignoresInputs (acceptCommand_ignoresInputs readFrameAccept_ignoresInputs)
      readFrameBitDone_ignoresInputs
  | readBit =>
    exact fsmTick_ignoresInputs (acceptCommand_ignoresInputs readBitAccept_ignoresInputs) fun _ _ _ => rfl
  | checkSum8 =>
    exact fsmTick_ignoresInputs
      (acceptCommand_ignoresInputs fun l s => congrArg _ (checkSum8_withInputs s l)) fun _ _ _ => rfl
  | checkCrc16 =>
    exact fsmTick_ignoresInputs
      (acceptCommand_ignoresInputs fun l s => congrArg _ (checkCrc16_withInputs s l)) fun _ _ _ => rfl

/-- A tick does not depend on the events to come. -/
theorem tickEvent_ignoresInputs (x : Level) : IgnoresInputs (tickEvent x) := by
  intro l s
  cases hc : commandOf s.op with
  | none =>
    rw [tickEvent_reservedOp hc, tickEvent_reservedOp (s := { s with inputs := l }) hc]
    exact fsmTick_ignoresInputs (fun _ _ => rfl) (fun _ _ _ => rfl) l { s with line := x }
  | some i =>
    rw [tickEvent_command hc, tickEvent_command (s := { s with inputs := l }) hc]
    exact exec_ignoresInputs i l { s with line := x }

/-- The steps over listed ticks are their run, with what is left of the list in the end. -/
theorem runSteps_ticks (xs : List Level) (rest : List Event) (s : State) :
    runSteps xs.length { s with inputs := xs.map Event.tick ++ rest } = withInputs rest (runTicks xs s) := by
  induction xs generalizing s with
  | nil => rfl
  | cons x xs ih =>
    have hstep : step { s with inputs := (x :: xs).map Event.tick ++ rest }
        = withInputs (xs.map Event.tick ++ rest) (tickEvent x s) :=
      (step_listed rfl).trans (tickEvent_ignoresInputs x (xs.map Event.tick ++ rest) s)
    simp only [List.length_cons, runSteps, hstep, runTicks]
    cases tickEvent x s with
    | next t => exact ih t
    | fault r => rfl
    | refused r => rfl

/-- No run of ticks is refused. -/
theorem runTicks_ne_refused (xs : List Level) (s : State) (r : Refusal) : runTicks xs s ≠ .refused r := by
  induction xs generalizing s with
  | nil => simp
  | cons x xs ih =>
    obtain ⟨t, e⟩ | ⟨-, e⟩ := tickEvent_next_or_fault x s
    · rw [runTicks_cons e]; exact ih t
    · simp [runTicks, e]

/-- Settles O5: the steps are the run with the list put back, and no tick is refused. -/
theorem ticksAreSteps : Obligations.TicksAreSteps := by
  intro xs rest s
  refine ⟨fun t h => ?_, fun r h => ?_, runTicks_ne_refused xs s⟩
  · rw [runSteps_ticks, h]; rfl
  · rw [runSteps_ticks, h]; rfl

end Sys2Proof.Machine
end

section
/-! What a tick writes: a running command moves only the FSM, the counters, SHIFT, BITCNT and the pad, and the results
change only where a command ends (20_memory.md R56, 40_line_commands.md R88, 60_exceptions.md R128, R138). -/

namespace Sys2Proof.Machine

theorem sameConfig_refl (s : State) : sameConfig s s := ⟨rfl, rfl, rfl, rfl, rfl, rfl, rfl, rfl, rfl⟩

theorem sameResults_refl (s : State) : sameResults s s := ⟨rfl, rfl, rfl, rfl⟩

/-! ### While a command goes on -/

/-- `t` is `s` but for the FSM, BITCNT, the counters, SHIFT and the pad, all that a tick writes while its command goes
on. -/
def Advances (s t : State) : Prop :=
  t = { s with
    fsm := t.fsm, bitcnt := t.bitcnt, shift := t.shift, pcnt := t.pcnt, scnt := t.scnt, lowcnt := t.lowcnt
    driveLow := t.driveLow }

section
variable {s t : State} (h : Advances s t)
include h

theorem Advances.sameConfig : sameConfig s t := by rw [h]; exact sameConfig_refl s

theorem Advances.sameResults : sameResults s t := by rw [h]; exact sameResults_refl s

theorem Advances.calcValue : t.calcValue = s.calcValue := by rw [h]

theorem Advances.status : t.stage = s.stage ∧ t.err = s.err ∧ t.done = s.done ∧ t.busy = s.busy := by
  rw [h]; exact ⟨rfl, rfl, rfl, rfl⟩

theorem Advances.latches : t.rej = s.rej ∧ t.op = s.op ∧ t.rsvd = s.rsvd := by rw [h]; exact ⟨rfl, rfl, rfl⟩

theorem Advances.notBlock : t.line = s.line ∧ t.inputs = s.inputs ∧ t.envCount = s.envCount ∧ t.reads = s.reads := by
  rw [h]; exact ⟨rfl, rfl, rfl, rfl⟩

end

theorem Advances.trans {s t u : State} (h : Advances s t) (h' : Advances t u) : Advances s u :=
  Eq.trans h' (by rw [h])

/-! ### How a tick ends -/

/-- All a tick of the command `c` can do while a command runs: it goes on, ends with an error, or ends with its
results. -/
inductive TickOutcome (c : Option Instr) (s : State) : State → Prop where
  | runs {t : State} : Advances s t → t.fsm ≠ .idle → TickOutcome c s t
  | fails {u : State} {e : ErrCode} {stage : Option Phase} : Advances s u → e ≠ .ok →
      TickOutcome c s (finish e { u with stage := stage })
  | checkFails {crc : BitVec 16} : (c = some .checkSum8 ∨ c = some .checkCrc16) →
      TickOutcome c s (finish .invalidChecksum { s with calcValue := crc })
  | checkPasses {crc : BitVec 16} {v : ValueBytes} : (c = some .checkSum8 ∨ c = some .checkCrc16) →
      TickOutcome c s (finish .ok (latchFields v { s with calcValue := crc }))
  | bitRead {u : State} {b : BitRes} : c = some .readBit → Advances s u →
      TickOutcome c s (finish .ok { u with bitres := b })
  | committed {u : State} : c = some .readFrame → Advances s u → TickOutcome c s (commitFrame u)

/-- An error that leaves STATUS.STAGE. -/
theorem TickOutcome.fails_same {c : Option Instr} {s u : State} {e : ErrCode} (h : Advances s u) (he : e ≠ .ok) :
    TickOutcome c s (finish e u) := .fails (stage := u.stage) h he

/-- A counted sample lets the command go on, or ends it with TIMEOUT. -/
theorem dwell_outcome {c : Option Instr} {w : Phase} {s u : State} (hu : Advances s u) (hf : u.fsm ≠ .idle) :
    TickOutcome c s (dwell w u) := by
  have hu' : Advances s { u with pcnt := u.pcnt + 1#9 } := hu.trans rfl
  obtain ⟨-, e⟩ | ⟨-, e⟩ := dwell_cases w u
  · rw [e]; exact .runs hu' hf
  · rw [e]; exact .fails (stage := some w) hu' (by simp)

/-- The first sample of a phase does too. -/
theorem enterPhase_outcome {c : Option Instr} {w : Phase} {s u : State} (hu : Advances s u) :
    TickOutcome c s (enterPhase w u) :=
  dwell_outcome (hu.trans rfl) nofun

/-- A START tick only counts, or begins the release wait. -/
theorem startTick_outcome {c : Option Instr} {s : State} (hf : s.fsm = .start) : TickOutcome c s (startTick s) := by
  obtain ⟨-, e⟩ | ⟨-, e⟩ := startTick_cases s
  · rw [e]; exact .runs rfl (by simp [hf])
  · rw [e]; exact .runs rfl nofun

/-- The end of a check passes or fails (41_checksum_commands.md R103, R104). -/
theorem endCheck_outcome {c : Option Instr} {valid : Prop} [Decidable valid] {crc : BitVec 16} {v : ValueBytes}
    {s : State} (hc : c = some .checkSum8 ∨ c = some .checkCrc16) : TickOutcome c s (endCheck valid crc v s) := by
  by_cases hv : valid
  · rw [endCheck_valid hv]; exact .checkPasses hc
  · rw [endCheck_invalid hv]; exact .checkFails hc

/-- The end of a frame commits it or fails (40_line_commands.md R86). -/
theorem frameDone_outcome {s u : State} (hu : Advances s u) : TickOutcome (some .readFrame) s (frameDone u) := by
  by_cases h : shiftByte u.shift 4 = shiftSum u.shift
  · rw [frameDone_match h]; exact .committed rfl hu
  · rw [frameDone_mismatch h]; exact .fails_same hu (by simp)

/-- In IDLE a move changes nothing; else it is one of the outcomes. -/
theorem Move.outcome {c : Option Instr} {s t : State} (h : Move c s t) :
    (s.fsm = .idle ∧ t = s) ∨ (s.fsm ≠ .idle ∧ TickOutcome c s t) := by
  cases h with
  | idle hf => exact .inl ⟨hf, rfl⟩
  | notInit hf => exact .inr ⟨by simp [hf], .fails_same rfl (by simp)⟩
  | invalidArg hf => exact .inr ⟨by simp [hf], .fails_same rfl (by simp)⟩
  | invalidResponse hf => exact .inr ⟨by simp [hf], .fails_same rfl (by simp)⟩
  | startPulse hf => exact .inr ⟨by simp [hf], .runs rfl nofun⟩
  | noPulse hf => exact .inr ⟨by simp [hf], .runs rfl nofun⟩
  | sum8 hf hc => rw [checkSum8_eq_endCheck]; exact .inr ⟨by simp [hf], endCheck_outcome (.inl hc)⟩
  | crc16 hf hc => rw [checkCrc16_eq_endCheck]; exact .inr ⟨by simp [hf], endCheck_outcome (.inr hc)⟩
  | start hf => exact .inr ⟨by simp [hf], startTick_outcome hf⟩
  | dwell w hf => exact .inr ⟨by simp [hf], dwell_outcome rfl (by simp [hf])⟩
  | bitStart w hf => exact .inr ⟨by simp [hf], enterPhase_outcome rfl⟩
  | handshake w n hf => exact .inr ⟨by simp [hf], enterPhase_outcome rfl⟩
  | lowEnds hf => exact .inr ⟨by simp [hf], enterPhase_outcome rfl⟩
  | bitRead hf hc =>
    exact .inr ⟨by simp [hf], .bitRead (u := { s with pcnt := 0#9, bitcnt := 1#6 }) hc rfl⟩
  | bitShifted hf => exact .inr ⟨by simp [hf], enterPhase_outcome rfl⟩
  | frameEnds hf hc => subst hc; exact .inr ⟨by simp [hf], frameDone_outcome rfl⟩

/-- What every outcome has in common: the command goes on, or it is finished and the line released. -/
theorem TickOutcome.advances_or_finished {c : Option Instr} {s t : State} (h : TickOutcome c s t) :
    (t.fsm ≠ .idle ∧ Advances s t) ∨ (Finished t ∧ t.driveLow = false) := by
  cases h with
  | runs ha hf => exact .inl ⟨hf, ha⟩
  | fails => exact .inr ⟨finish_finished _ _, rfl⟩
  | checkFails => exact .inr ⟨finish_finished _ _, rfl⟩
  | checkPasses => exact .inr ⟨finish_finished _ _, rfl⟩
  | bitRead => exact .inr ⟨finish_finished _ _, rfl⟩
  | committed => exact .inr ⟨finish_finished _ _, rfl⟩

/-- A tick that ends with an error writes no result, and CALC only if the command is a check (60_exceptions.md R128). -/
theorem TickOutcome.results_of_not_ok {c : Option Instr} {s t : State} (h : TickOutcome c s t)
    (hn : ¬ (t.fsm = .idle ∧ t.err = .ok)) :
    sameResults s t ∧ (c ≠ some .checkSum8 → c ≠ some .checkCrc16 → t.calcValue = s.calcValue) := by
  cases h with
  | runs ha => exact ⟨ha.sameResults, fun _ _ => ha.calcValue⟩
  | fails ha => exact ⟨ha.sameResults, fun _ _ => ha.calcValue⟩
  | checkFails hc => exact ⟨sameResults_refl s, fun h8 h16 => absurd hc (by simp [h8, h16])⟩
  | checkPasses => exact absurd ⟨rfl, rfl⟩ hn
  | bitRead => exact absurd ⟨rfl, rfl⟩ hn
  | committed => exact absurd ⟨rfl, rfl⟩ hn

/-- No tick writes CTRL, TIMING0 or TIMING1 (40_line_commands.md R75). -/
theorem TickOutcome.sameConfig {c : Option Instr} {s t : State} (h : TickOutcome c s t) : sameConfig s t := by
  cases h with
  | runs ha => exact ha.sameConfig
  | fails ha => exact ha.sameConfig
  | checkFails => exact sameConfig_refl s
  | checkPasses => exact sameConfig_refl s
  | bitRead _ ha => exact ha.sameConfig
  | committed _ ha => exact ha.sameConfig

/-- The tick event takes the sample as the line and then moves. -/
theorem tickEvent_move {x : Level} {s t : State} (h : tickEvent x s = .next t) :
    Move (commandOf s.op) { s with line := x } t :=
  runTick_move h

/-- Only a tick writes CALC, HUM or TEMP: a host access leaves them, and so does a tick in IDLE. -/
theorem applyEvent_values {e : Event} {s t : State} (h : applyEvent e s = .next t) (he : e ≠ .reset) :
    (t.calcValue = s.calcValue ∧ t.hum = s.hum ∧ t.temp = s.temp)
      ∨ ∃ x, e = .tick x ∧ s.fsm ≠ .idle ∧ TickOutcome (commandOf s.op) { s with line := x } t := by
  obtain ⟨a, rfl, -, rfl⟩ | ⟨a, v, rfl, -, rfl⟩ | ⟨x, rfl, hm⟩ | ⟨rfl, -⟩ := applyEvent_next h
  · exact .inl ⟨rfl, rfl, rfl⟩
  · left
    obtain ⟨-, -, e⟩ | ⟨-, e⟩ | ⟨-, -, e⟩ | ⟨-, -, e⟩ | ⟨-, -, e⟩ | ⟨-, -, e⟩ | ⟨-, k, -, e⟩ :=
      hostWrite_cases a.off v s
    all_goals rw [e]; exact ⟨rfl, rfl, rfl⟩
  · obtain ⟨-, rfl⟩ | ⟨hf, ho⟩ := hm.outcome
    · exact .inl ⟨rfl, rfl, rfl⟩
    · exact .inr ⟨x, rfl, hf, ho⟩
  · exact absurd rfl he

/-- The opcodes of the two checks (30_encoding.md R61). -/
theorem opcode_of_check {op : BitVec 4} (hc : commandOf op = some .checkSum8 ∨ commandOf op = some .checkCrc16) :
    op = 3#4 ∨ op = 4#4 :=
  hc.imp (commandOf_eq_some _ _).1 (commandOf_eq_some _ _).1

/-! ### The obligations about results and errors -/

/-- Settles O49: a tick that writes CALC ends a check, or ends with OK, and then it is a commit. -/
theorem calcChangesOnlyByTheChecksAndTheCommit : Obligations.CalcChangesOnlyByTheChecksAndTheCommit := by
  intro s t e h he hcalc
  obtain ⟨hsame, -⟩ | ⟨x, rfl, hf, ho⟩ := applyEvent_values h he
  · exact absurd hsame hcalc
  obtain ⟨-, ha⟩ | ⟨⟨hidle, -, hdone⟩, -⟩ := ho.advances_or_finished
  · exact absurd ha.calcValue hcalc
  refine ⟨⟨x, rfl⟩, hf, hidle, hdone, ?_⟩
  cases ho with
  | runs ha => exact absurd ha.calcValue hcalc
  | fails ha => exact absurd ha.calcValue hcalc
  | checkFails hc => exact (opcode_of_check hc).imp_right .inl
  | checkPasses hc => exact (opcode_of_check hc).imp_right .inl
  | bitRead _ ha => exact absurd ha.calcValue hcalc
  | committed hc => exact .inr (.inr ⟨(commandOf_eq_some _ _).1 hc, rfl⟩)

/-- Settles O51: a tick that goes on or ends with an error leaves HUM and TEMP. -/
theorem valuesChangeOnlyOnSuccess : Obligations.ValuesChangeOnlyOnSuccess := by
  intro s t e h he hv
  obtain ⟨-, hhum, htemp⟩ | ⟨x, rfl, hf, ho⟩ := applyEvent_values h he
  · simp [hhum, htemp] at hv
  have hok : t.fsm = .idle ∧ t.err = .ok := by
    by_contra hn
    obtain ⟨⟨-, hhum, htemp, -⟩, -⟩ := ho.results_of_not_ok hn
    simp [hhum, htemp] at hv
  obtain ⟨hrun, -⟩ | ⟨⟨-, -, hdone⟩, -⟩ := ho.advances_or_finished
  · exact absurd hok.1 hrun
  · exact ⟨⟨x, rfl⟩, hf, hok.1, hdone, hok.2⟩

/-- Settles O52: the outcome is an error, which writes STATUS alone, and CALC where the command is a check. -/
theorem errorsLeaveTheResults : Obligations.ErrorsLeaveTheResults := by
  intro s t x hf h hidle herr
  obtain ⟨hf', -⟩ | ⟨-, ho⟩ := (tickEvent_move h).outcome
  · exact absurd hf' hf
  obtain ⟨hrun, -⟩ | ⟨⟨-, hbusy, hdone⟩, hdrive⟩ := ho.advances_or_finished
  · exact absurd hidle hrun
  obtain ⟨hres, hcalc⟩ := ho.results_of_not_ok fun hn => herr hn.2
  refine ⟨hres, ho.sameConfig, hdrive, hbusy, hdone, fun h3 h4 => hcalc (fun hc => ?_) fun hc => ?_⟩
  · exact h3 ((commandOf_eq_some _ _).1 hc)
  · exact h4 ((commandOf_eq_some _ _).1 hc)

/-- Settles O53: a tick after which the command still runs only advances it. -/
theorem runningCommandShowsThePreviousResults : Obligations.RunningCommandShowsThePreviousResults := by
  intro s t x h hrun
  obtain ⟨-, rfl⟩ | ⟨-, ho⟩ := (tickEvent_move h).outcome
  · exact ⟨sameResults_refl s, rfl⟩
  obtain ⟨-, ha⟩ | ⟨⟨hidle, -⟩, -⟩ := ho.advances_or_finished
  · exact ⟨ha.sameResults, ha.calcValue⟩
  · exact absurd hidle hrun

/-! ### The obligations about a running command -/

/-- While BUSY = 1 a host write is dropped or ignored (20_memory.md R48). -/
theorem hostWrite_busy {s : State} (hb : s.busy = true) (off : Offset) (v : Word) :
    hostWrite off v s = { s with rej := (hostWrite off v s).rej } := by
  obtain ⟨-, -, e⟩ | ⟨-, e⟩ | ⟨hb', -⟩ | ⟨hb', -⟩ | ⟨hb', -⟩ | ⟨hb', -⟩ | ⟨hb', -⟩ := hostWrite_cases off v s
  · rw [e]; rfl
  · rw [e]
  all_goals simp [hb] at hb'

/-- Settles O54: a host access is a read or a dropped write, and no tick writes the configuration. -/
theorem runningCommandKeepsItsOperands : Obligations.RunningCommandKeepsItsOperands := by
  intro s t e hb h he
  obtain ⟨a, rfl, -, rfl⟩ | ⟨a, v, rfl, -, rfl⟩ | ⟨x, rfl, hm⟩ | ⟨rfl, -⟩ := applyEvent_next h
  · exact ⟨sameConfig_refl s, fun _ => rfl⟩
  · have hw := hostWrite_busy hb a.off v
    rw [hw]
    exact ⟨sameConfig_refl s, fun _ => rfl⟩
  · refine ⟨?_, fun hx => absurd rfl (hx x)⟩
    obtain ⟨-, rfl⟩ | ⟨-, ho⟩ := hm.outcome
    · exact sameConfig_refl s
    · exact ho.sameConfig
  · exact absurd rfl he

/-- Settles O55: host accesses leave BUSY, and a tick that clears it is the command's end. -/
theorem onlyResetStopsARunningCommand : Obligations.OnlyResetStopsARunningCommand := by
  intro s t e hinv hb h hstop
  obtain ⟨a, rfl, -, rfl⟩ | ⟨a, v, rfl, -, rfl⟩ | ⟨x, rfl, hm⟩ | ⟨rfl, -⟩ := applyEvent_next h
  · simp [hb] at hstop
  · rw [hostWrite_busy hb] at hstop
    simp [hb] at hstop
  · obtain ⟨hf, -⟩ | ⟨-, ho⟩ := hm.outcome
    · exact absurd hf (hinv.busy_iff.1 hb)
    obtain ⟨-, ha⟩ | ⟨⟨hidle, -, hdone⟩, -⟩ := ho.advances_or_finished
    · obtain ⟨-, -, -, hbusy⟩ := ha.status
      simp [hbusy, hb] at hstop
    · exact .inr ⟨⟨x, rfl⟩, hdone, hidle⟩
  · exact .inl rfl

end Sys2Proof.Machine
end

section
/-! Which errors each command can end with, and the frames of a READ_FRAME and a READ_BIT tick (60_exceptions.md R124,
40_line_commands.md R72, R78, R80 to R88). -/

namespace Sys2Proof.Machine

/-! ### The cause of an error (60_exceptions.md R124) -/

/-- Why a tick of the command `c` ended with an error, by its code. -/
inductive ErrorCause (c : Option Instr) (s t : State) : Prop where
  | notInit : t.err = .notInit → (c = some .readFrame ∨ c = some .readBit) → s.fsm = .accept → s.en = false →
      ErrorCause c s t
  | invalidArg : t.err = .invalidArg → s.fsm = .accept → (c = none ∨ s.rsvd = true) →
      (c = some .readFrame ∨ c = some .readBit → s.en = true) → ErrorCause c s t
  | invalidResponse : t.err = .invalidResponse → c = some .readFrame → s.fsm = .accept → s.line = false →
      ErrorCause c s t
  | timeoutAtAccept (w : Phase) : t.err = .timeout → t.stage = some w → c = some .readBit → w.isHandshake = false →
      ErrorCause c s t
  | timeoutInPhase (v w : Phase) : t.err = .timeout → t.stage = some w → s.fsm = .wait v →
      (v.isHandshake = false → w.isHandshake = false) → ErrorCause c s t
  | invalidChecksum : t.err = .invalidChecksum → c ≠ some .readBit → ErrorCause c s t

/-- A counted sample ends the command only with TIMEOUT at its phase. -/
theorem dwell_ends {w : Phase} {s : State} (hf : s.fsm ≠ .idle) (h : (dwell w s).fsm = .idle) :
    (dwell w s).err = .timeout ∧ (dwell w s).stage = some w := by
  obtain ⟨-, e⟩ | ⟨-, e⟩ := dwell_cases w s
  · rw [e] at h; exact absurd h hf
  · rw [e]; exact ⟨rfl, rfl⟩

/-- The first sample of a phase ends the command only with TIMEOUT at that phase. -/
theorem enterPhase_ends {w : Phase} {s : State} (h : (enterPhase w s).fsm = .idle) :
    (enterPhase w s).err = .timeout ∧ (enterPhase w s).stage = some w :=
  dwell_ends (s := { s with fsm := .wait w }) nofun h

/-- A START tick never ends the command. -/
theorem startTick_fsm {s : State} (hf : s.fsm = .start) : (startTick s).fsm ≠ .idle := by
  obtain ⟨-, e⟩ | ⟨-, e⟩ := startTick_cases s
  · simp [e, hf]
  · simp [e]

/-- A check that ends with an error ends with INVALID_CHECKSUM. -/
theorem endCheck_err {valid : Prop} [Decidable valid] {c : BitVec 16} {v : ValueBytes} {s : State}
    (h : (endCheck valid c v s).err ≠ .ok) : (endCheck valid c v s).err = .invalidChecksum := by
  by_cases hv : valid
  · rw [endCheck_valid hv] at h; exact absurd rfl h
  · rw [endCheck_invalid hv]; rfl

/-- So does a frame. -/
theorem frameDone_err {s : State} (h : (frameDone s).err ≠ .ok) : (frameDone s).err = .invalidChecksum := by
  by_cases hv : shiftByte s.shift 4 = shiftSum s.shift
  · rw [frameDone_match hv] at h; exact absurd rfl h
  · rw [frameDone_mismatch hv]; rfl

/-- Every tick that ends a command with an error has one of the causes. -/
theorem Move.errorCause {c : Option Instr} {s t : State} (h : Move c s t) (hs : s.fsm ≠ .idle) (ht : t.fsm = .idle)
    (he : t.err ≠ .ok) : ErrorCause c s t := by
  cases h with
  | idle hf => exact absurd hf hs
  | notInit hf hc hen => exact .notInit rfl hc hf hen
  | invalidArg hf hr hen => exact .invalidArg rfl hf hr hen
  | invalidResponse hf hc _ _ hl => exact .invalidResponse rfl hc hf hl
  | startPulse => cases ht
  | noPulse => cases ht
  | sum8 hf hc =>
    rw [checkSum8_eq_endCheck] at he ⊢
    exact .invalidChecksum (endCheck_err he) (by simp [hc])
  | crc16 hf hc =>
    rw [checkCrc16_eq_endCheck] at he ⊢
    exact .invalidChecksum (endCheck_err he) (by simp [hc])
  | start hf => exact absurd ht (startTick_fsm hf)
  | dwell w hf =>
    obtain ⟨herr, hst⟩ := dwell_ends hs ht
    exact .timeoutInPhase w w herr hst hf id
  | bitStart w hf hc _ _ _ hw =>
    obtain ⟨herr, hst⟩ := enterPhase_ends ht
    exact .timeoutAtAccept w herr hst hc (by obtain rfl | rfl := hw <;> rfl)
  | handshake w n hf _ hn =>
    obtain ⟨herr, hst⟩ := enterPhase_ends ht
    exact .timeoutInPhase w n herr hst hf (by cases w <;> simp [afterHandshake, Phase.isHandshake] at hn ⊢)
  | lowEnds hf =>
    obtain ⟨herr, hst⟩ := enterPhase_ends ht
    exact .timeoutInPhase _ _ herr hst hf id
  | bitRead => exact absurd rfl he
  | bitShifted hf =>
    obtain ⟨herr, hst⟩ := enterPhase_ends ht
    exact .timeoutInPhase _ _ herr hst hf id
  | frameEnds hf hc => exact .invalidChecksum (frameDone_err he) (by simp [hc])

/-- The phases that are not of the handshake are the two of a bit (40_line_commands.md R75). -/
theorem isHandshake_eq_false {w : Phase} (h : w.isHandshake = false) : w = .bitLow ∨ w = .bitHigh := by
  cases w <;> simp [Phase.isHandshake] at h ⊢

/-- A command that times out in a phase is the one the invariant gives the phase to. -/
theorem BlockInv.timeout_stage {s : State} (h : BlockInv s) {i : Instr} (hop : s.op = opcode i) {v w : Phase}
    (hf : s.fsm = .wait v) (hvw : v.isHandshake = false → w.isHandshake = false) :
    i = .readFrame ∨ (i = .readBit ∧ (w = .bitLow ∨ w = .bitHigh)) := by
  have hc := (commandOf_eq_some _ _).2 hop
  obtain h1 | h2 := h.bit_op v hf
  · rw [h1] at hc
    exact .inl (Option.some.inj hc).symm
  · have hv : v.isHandshake = false := Bool.eq_false_iff.2 fun hv => by simp [h.handshake_op v hf hv] at h2
    rw [h2] at hc
    exact .inr ⟨(Option.some.inj hc).symm, isHandshake_eq_false (hvw hv)⟩

/-- Settles O56: each code has its cause, and the invariant gives each phase to its command. -/
theorem errorsOfEachCommand : Obligations.ErrorsOfEachCommand := by
  intro s t i hinv hop hs h ht
  by_cases hok : t.err = .ok
  · simp [hok]
  cases (exec_move h).errorCause hs ht hok with
  | notInit he hc hf hen =>
    rw [Option.some_inj, Option.some_inj] at hc
    simp [he, hc, hf, hen]
  | invalidArg he hf hr hen =>
    rw [Option.some_inj, Option.some_inj] at hen
    have hr : s.rsvd = true := hr.resolve_left nofun
    simpa [he, hf, hr] using hen
  | invalidResponse he hc hf hl => simp [he, Option.some.inj hc, hf, hl]
  | timeoutAtAccept w he hst hc hw => simp [he, hst, Option.some.inj hc, isHandshake_eq_false hw]
  | timeoutInPhase v w he hst hf hvw => simp [he, hst, hinv.timeout_stage hop hf hvw]
  | invalidChecksum he hc => simpa [he] using hc

/-! ### The frame of a line command's tick -/

/-- No tick writes REJ or the latches of the command (40_line_commands.md R72). -/
theorem TickOutcome.latches {c : Option Instr} {s t : State} (h : TickOutcome c s t) :
    t.rej = s.rej ∧ t.op = s.op ∧ t.rsvd = s.rsvd := by
  cases h with
  | runs ha => exact ha.latches
  | fails ha => exact ha.latches
  | checkFails => exact ⟨rfl, rfl, rfl⟩
  | checkPasses => exact ⟨rfl, rfl, rfl⟩
  | bitRead _ ha => exact ha.latches
  | committed _ ha => exact ha.latches

/-- No move writes the sample, the events to come or the host's record. -/
theorem TickOutcome.notBlock {c : Option Instr} {s t : State} (h : TickOutcome c s t) :
    t.line = s.line ∧ t.inputs = s.inputs ∧ t.envCount = s.envCount ∧ t.reads = s.reads := by
  cases h with
  | runs ha => exact ha.notBlock
  | fails ha => exact ha.notBlock
  | checkFails => exact ⟨rfl, rfl, rfl, rfl⟩
  | checkPasses => exact ⟨rfl, rfl, rfl, rfl⟩
  | bitRead _ ha => exact ha.notBlock
  | committed _ ha => exact ha.notBlock

/-- STATUS.STAGE, ERR, DONE and BUSY are written only where the command ends (60_exceptions.md R126). -/
theorem TickOutcome.status_of_runs {c : Option Instr} {s t : State} (h : TickOutcome c s t) (hf : t.fsm ≠ .idle) :
    t.stage = s.stage ∧ t.err = s.err ∧ t.done = s.done ∧ t.busy = s.busy := by
  obtain ⟨-, ha⟩ | ⟨⟨hidle, -⟩, -⟩ := h.advances_or_finished
  · exact ha.status
  · exact absurd hidle hf

/-- READ_FRAME never writes BITRES, nor FRAME[5..7] (40_line_commands.md R87). -/
theorem TickOutcome.readFrame_keeps {s t : State} (h : TickOutcome (some .readFrame) s t) :
    t.bitres = s.bitres ∧ t.frame[5] = s.frame[5] ∧ t.frame[6] = s.frame[6] ∧ t.frame[7] = s.frame[7] := by
  cases h with
  | runs ha => obtain ⟨hf, -, -, hb⟩ := ha.sameResults; simp [hf, hb]
  | fails ha => obtain ⟨hf, -, -, hb⟩ := ha.sameResults; simp [hf, hb]
  | checkFails hc => simp at hc
  | checkPasses hc => simp at hc
  | bitRead hc => cases hc
  | committed _ ha =>
    obtain ⟨hf, -, -, hb⟩ := ha.sameResults
    rw [← hf, ← hb]
    exact ⟨rfl, rfl, rfl, rfl⟩

/-- READ_BIT never writes FRAME, HUM, TEMP or CALC, and BITRES only where it ends with OK (40_line_commands.md R78). -/
theorem TickOutcome.readBit_keeps {s t : State} (h : TickOutcome (some .readBit) s t) :
    t.frame = s.frame ∧ t.hum = s.hum ∧ t.temp = s.temp ∧ t.calcValue = s.calcValue := by
  cases h with
  | runs ha => obtain ⟨hf, hh, ht, -⟩ := ha.sameResults; exact ⟨hf, hh, ht, ha.calcValue⟩
  | fails ha => obtain ⟨hf, hh, ht, -⟩ := ha.sameResults; exact ⟨hf, hh, ht, ha.calcValue⟩
  | checkFails hc => simp at hc
  | checkPasses hc => simp at hc
  | bitRead _ ha => obtain ⟨hf, hh, ht, -⟩ := ha.sameResults; exact ⟨hf, hh, ht, ha.calcValue⟩
  | committed hc => cases hc

/-- Settles O57: the frame of each outcome of a READ_FRAME tick. -/
theorem readFrameTickFrame : Obligations.ReadFrameTickFrame := by
  intro s t h
  obtain ⟨hf, rfl⟩ | ⟨-, ho⟩ := (exec_move h).outcome
  · exact ⟨sameConfig_refl _, rfl, rfl, rfl, rfl, rfl, rfl, rfl, rfl, rfl, rfl, rfl,
      fun _ => ⟨sameResults_refl _, rfl⟩, fun hn => absurd hf hn⟩
  obtain ⟨hrej, hop, hrsvd⟩ := ho.latches
  obtain ⟨hb, h5, h6, h7⟩ := ho.readFrame_keeps
  obtain ⟨hl, hi, hc, hr⟩ := ho.notBlock
  refine ⟨ho.sameConfig, hrej, hop, hrsvd, hb, h5, h6, h7, hl, hi, hc, hr, fun hn => ?_, ho.status_of_runs⟩
  exact (ho.results_of_not_ok hn).imp_right fun hcalc => hcalc (by simp) (by simp)

/-! ### SHIFT, the start counter and BITCNT in a READ_BIT tick -/

/-- A counted sample leaves SHIFT, the start counter and BITCNT. -/
theorem dwell_keeps (w : Phase) (s : State) :
    (dwell w s).shift = s.shift ∧ (dwell w s).scnt = s.scnt ∧ (dwell w s).bitcnt = s.bitcnt := by
  obtain ⟨-, e⟩ | ⟨-, e⟩ := dwell_cases w s
  · rw [e]; exact ⟨rfl, rfl, rfl⟩
  · rw [e]; exact ⟨rfl, rfl, rfl⟩

/-- The first sample of a phase does too. -/
theorem enterPhase_keeps (w : Phase) (s : State) :
    (enterPhase w s).shift = s.shift ∧ (enterPhase w s).scnt = s.scnt ∧ (enterPhase w s).bitcnt = s.bitcnt :=
  dwell_keeps w { s with fsm := .wait w }

/-- Outside START a tick of READ_BIT leaves SHIFT and the start counter, and BITCNT unless it ends with OK
(40_line_commands.md R78). -/
theorem Move.readBit_keeps {s t : State} (h : Move (some .readBit) s t) (hs : s.fsm ≠ .start) :
    t.shift = s.shift ∧ t.scnt = s.scnt ∧ (¬ (t.fsm = .idle ∧ t.err = .ok) → t.bitcnt = s.bitcnt) := by
  cases h with
  | idle => exact ⟨rfl, rfl, fun _ => rfl⟩
  | notInit => exact ⟨rfl, rfl, fun _ => rfl⟩
  | invalidArg => exact ⟨rfl, rfl, fun _ => rfl⟩
  | invalidResponse _ hc => cases hc
  | startPulse _ hc => cases hc
  | noPulse _ hc => cases hc
  | sum8 _ hc => cases hc
  | crc16 _ hc => cases hc
  | start hf => exact absurd hf hs
  | dwell w => obtain ⟨h1, h2, h3⟩ := dwell_keeps w s; exact ⟨h1, h2, fun _ => h3⟩
  | bitStart w =>
    obtain ⟨h1, h2, h3⟩ := enterPhase_keeps w { s with pcnt := 0#9, lowcnt := 0#8 }
    exact ⟨h1, h2, fun _ => h3⟩
  | handshake w n =>
    obtain ⟨h1, h2, h3⟩ := enterPhase_keeps n { s with pcnt := 0#9 }
    exact ⟨h1, h2, fun _ => h3⟩
  | lowEnds =>
    obtain ⟨h1, h2, h3⟩ := enterPhase_keeps .bitHigh { s with pcnt := 0#9, lowcnt := s.pcnt.setWidth 8 }
    exact ⟨h1, h2, fun _ => h3⟩
  | bitRead => exact ⟨rfl, rfl, fun hn => absurd ⟨rfl, rfl⟩ hn⟩
  | bitShifted _ hc => cases hc
  | frameEnds _ hc => cases hc

/-- Settles O58: the frame of each outcome of a READ_BIT tick, and of its moves for the hidden state. -/
theorem readBitTickFrame : Obligations.ReadBitTickFrame := by
  intro s t h hs
  have hm := exec_move h
  obtain ⟨hf, rfl⟩ | ⟨-, ho⟩ := hm.outcome
  · exact ⟨sameConfig_refl _, rfl, rfl, rfl, rfl, rfl, rfl, rfl, rfl, rfl, rfl, rfl, rfl, rfl,
      fun _ => ⟨rfl, rfl⟩, fun hn => absurd hf hn⟩
  obtain ⟨hrej, hop, hrsvd⟩ := ho.latches
  obtain ⟨hframe, hhum, htemp, hcalc⟩ := ho.readBit_keeps
  obtain ⟨hshift, hscnt, hbitcnt⟩ := hm.readBit_keeps hs
  obtain ⟨hl, hi, hc, hr⟩ := ho.notBlock
  refine ⟨ho.sameConfig, hrej, hop, hrsvd, hframe, hhum, htemp, hcalc, hshift, hscnt, hl, hi, hc, hr, fun hn => ?_,
    ho.status_of_runs⟩
  obtain ⟨⟨-, -, -, hbitres⟩, -⟩ := ho.results_of_not_ok hn
  exact ⟨hbitres, hbitcnt hn⟩

end Sys2Proof.Machine
end

section
/-! A tick of a line command in each FSM state: the ACCEPT step, a counted sample, and the end of each phase
(40_line_commands.md R73 to R78, R80 to R85). -/

namespace Sys2Proof.Machine

/-! ### Entering a phase (40_line_commands.md R77) -/

/-- Entering a phase whose limit is at least 1 leaves the command in it with count 1. -/
theorem enterPhase_fits {w : Phase} {s : State} (h0 : s.pcnt = 0#9) (h : 1 ≤ (limit w s).toNat) :
    enterPhase w s = { s with fsm := .wait w, pcnt := 1#9 } := by
  obtain ⟨-, e⟩ | ⟨hz, -⟩ := enterPhase_cases (w := w) h0
  · exact e
  · simp [hz] at h

/-- Entering a phase whose limit is 0 times out at once. -/
theorem enterPhase_zero {w : Phase} {s : State} (h0 : s.pcnt = 0#9) (h : limit w s = 0#8) :
    enterPhase w s =
      { s with
        pcnt := 1#9, stage := some w
        err := .timeout, fsm := .idle, busy := false, done := true, driveLow := false } := by
  obtain ⟨h1, -⟩ | ⟨-, e⟩ := enterPhase_cases (w := w) h0
  · simp [h] at h1
  · exact e

/-! ### A tick in a timed wait -/

/-- A sample at the phase's level is counted. -/
theorem exec_line_dwell {i : Instr} (hi : i = .readFrame ∨ i = .readBit) {s : State} {w : Phase}
    (hf : s.fsm = .wait w) (hl : s.line = level w) : exec i s = .next (dwell w s) := by
  obtain rfl | rfl := hi
  · exact (fsmTick_wait hf).trans (phaseTick_at hl)
  · exact exec_readBit_dwell hf hl

/-- A high sample ends the low phase of a bit and is the first of its high phase. -/
theorem exec_line_lowEnds {i : Instr} (hi : i = .readFrame ∨ i = .readBit) {s : State}
    (hf : s.fsm = .wait .bitLow) (hl : s.line = true) :
    exec i s = .next (enterPhase .bitHigh { s with pcnt := 0#9, lowcnt := s.pcnt.setWidth 8 }) := by
  obtain rfl | rfl := hi
  · exact (fsmTick_wait hf).trans (phaseTick_off (by simp [level, hl]))
  · exact exec_readBit_lowEnds hf hl

/-- A sample at the other level ends a handshake phase and is the first of the next phase. -/
theorem exec_readFrame_handshake {w n : Phase} (hn : afterHandshake w = some n) {s : State} (hf : s.fsm = .wait w)
    (hl : s.line ≠ level w) : exec .readFrame s = .next (enterPhase n { s with pcnt := 0#9 }) := by
  refine (fsmTick_wait hf).trans ((phaseTick_off hl).trans ?_)
  cases w <;> cases hn <;> rfl

/-- A low sample that ends a bit before the 40th shifts it in and is the first of the next bit's low phase. -/
theorem exec_readFrame_bitEnds {s : State} (hf : s.fsm = .wait .bitHigh) (hl : s.line = false)
    (hb : (s.bitcnt + 1#6).toNat ≠ Config.frameBits) :
    exec .readFrame s = .next (enterPhase .bitLow (shiftIn (bitValue s.pcnt s) { s with pcnt := 0#9 })) :=
  (fsmTick_wait hf).trans ((phaseTick_bitEnds hl).trans (readFrameBitDone_more hb))

/-- A low sample that ends the 40th bit shifts it in and ends the frame. -/
theorem exec_readFrame_frameEnds {s : State} (hf : s.fsm = .wait .bitHigh) (hl : s.line = false)
    (hb : (s.bitcnt + 1#6).toNat = Config.frameBits) :
    exec .readFrame s = .next (frameDone (shiftIn (bitValue s.pcnt s) { s with pcnt := 0#9 })) :=
  (fsmTick_wait hf).trans ((phaseTick_bitEnds hl).trans (readFrameBitDone_last hb))

/-- A bit shifted in, as numbers (40_line_commands.md R85). -/
theorem shiftIn_eq (b : Bool) (s : State) :
    shiftIn b s = { s with shift := BitVec.ofNat 40 (2 * s.shift.toNat + b.toNat), bitcnt := s.bitcnt + 1#6 } := by
  rw [← shiftIn_shift_eq_ofNat]; rfl

/-! ### The ACCEPT step of READ_FRAME (40_line_commands.md R80) -/

/-- A READ_FRAME that gets past the ACCEPT checks runs its own ACCEPT step. -/
theorem exec_readFrame_accept {s : State} (hf : s.fsm = .accept) (he : s.en = true) (hr : s.rsvd = false) :
    exec .readFrame s = readFrameAccept s :=
  (fsmTick_accept hf).trans (acceptCommand_starts (fun _ => he) hr)

/-- A low line ends it with INVALID_RESPONSE. -/
theorem readFrameAccept_low {s : State} (hl : s.line = false) :
    readFrameAccept s = .next (finish .invalidResponse s) := if_pos hl

/-- A high line with START_LOW_MS = 0 begins the release wait. -/
theorem readFrameAccept_noPulse {s : State} (hl : s.line = true) (h0 : s.startLowMs = 0#8) :
    readFrameAccept s = .next { s with shift := 0#40, pcnt := 0#9, scnt := 0#18, fsm := .wait .waitRelease } := by
  simp only [readFrameAccept, hl, h0, Bool.true_eq_false, if_false, if_true]

/-! ### The obligations about one tick -/

/-- Settles O23: `Finish(NOT_INIT)` at the ACCEPT tick. -/
theorem lineCommandBeforeInitEndsWithNotInit : Obligations.LineCommandBeforeInitEndsWithNotInit :=
  fun _ _ hi hf he => exec_accept_notInit hi hf he

/-- Settles O27: the count goes up by one and is compared with the limit. -/
theorem sampleAtLevelIsCountedOrTimesOut : Obligations.SampleAtLevelIsCountedOrTimesOut := by
  intro s i w hi hf hl hp
  have hs : (s.pcnt + 1#9).toNat = s.pcnt.toNat + 1 := pcnt_succ_toNat (l := 255#8) hp
  rw [exec_line_dwell hi hf hl, ← hs]
  exact ⟨fun h => congrArg _ (dwell_within h), fun h => congrArg _ (dwell_past h)⟩

/-- Settles O28: the five levels, and the first sample of a phase as one at its level. -/
theorem enteredPhaseCountsItsFirstSample : Obligations.EnteredPhaseCountsItsFirstSample :=
  ⟨by decide, fun _ _ _ hl => phaseTick_entered hl, fun _ _ => enterPhase_fits, fun _ _ => enterPhase_zero⟩

/-- Settles O29: the three handshake phases, each ending into the next. -/
theorem handshakePhasesFollowInOrder : Obligations.HandshakePhasesFollowInOrder := by
  intro s w n hwn hf hl
  have hn : afterHandshake w = some n := by
    obtain ⟨rfl, rfl⟩ | ⟨rfl, rfl⟩ | ⟨rfl, rfl⟩ := hwn <;> rfl
  have hlim : limit n { s with pcnt := 0#9 } = limit n s := limit_congr n rfl rfl rfl rfl rfl
  rw [exec_readFrame_handshake hn hf hl, ← hlim]
  exact ⟨fun h => congrArg _ (enterPhase_fits rfl h), fun h => congrArg _ (enterPhase_zero rfl h)⟩

/-- Settles O30: the low phase ends into the high phase with its count in LOWCNT. -/
theorem lowPhaseEndsIntoHighPhase : Obligations.LowPhaseEndsIntoHighPhase := by
  intro s i hi hf hl _
  rw [exec_line_lowEnds hi hf hl]
  exact ⟨fun h => congrArg _ (enterPhase_fits rfl h), fun h => congrArg _ (enterPhase_zero rfl h)⟩

/-- Settles O32: the phase of the sample's level is entered with both counts 0. -/
theorem readBitAcceptTick : Obligations.ReadBitAcceptTick := by
  intro s hf he hr
  rw [exec_readBit_accept hf he hr]
  refine ⟨fun hl h => ?_, fun hl h => ?_, fun hl h => ?_, fun hl h => ?_⟩
  · rw [hl]; exact congrArg _ (enterPhase_fits rfl h)
  · rw [hl]; exact congrArg _ (enterPhase_fits rfl h)
  · rw [hl]; exact congrArg _ (enterPhase_zero rfl h)
  · rw [hl]; exact congrArg _ (enterPhase_zero rfl h)

/-- Settles O33: the end of the high phase is the end of READ_BIT. -/
theorem readBitStoresTheBit : Obligations.ReadBitStoresTheBit :=
  fun _ hf hl _ => exec_readBit_highEnds hf hl

/-- Settles O36: the three branches of the ACCEPT step. -/
theorem readFrameAcceptTick : Obligations.ReadFrameAcceptTick := by
  intro s hf he hr
  refine ⟨fun hl => ?_, exec_readFrame_accept_pulse hf he hr, fun hl h0 => ?_⟩
  · rw [exec_readFrame_accept hf he hr]; exact readFrameAccept_low hl
  · rw [exec_readFrame_accept hf he hr]; exact readFrameAccept_noPulse hl h0

/-- Settles O38: the bit is shifted in, and the low sample enters the next bit's low phase. -/
theorem frameBitIsShiftedIn : Obligations.FrameBitIsShiftedIn := by
  intro s hf hl hb
  have hmore : (s.bitcnt + 1#6).toNat ≠ Config.frameBits := by rw [Config.frameBits]; bv_omega
  rw [exec_readFrame_bitEnds hf hl hmore, shiftIn_eq]
  exact ⟨fun h => congrArg _ (enterPhase_fits rfl h), fun h => congrArg _ (enterPhase_zero rfl h)⟩

end Sys2Proof.Machine
end

section
/-! Runs of ticks of one level: how long a phase lasts, and how READ_BIT decodes a pulse
(40_line_commands.md R74 to R78). -/

namespace Sys2Proof.Machine

/-! ### Runs of samples at a phase's level (40_line_commands.md R74, R76) -/

/-- The first tick of a run writes the line, so what it was before does not matter. -/
theorem runTicks_cons_line (x : Level) (xs : List Level) (s : State) :
    runTicks (x :: xs) s = runTicks (x :: xs) { s with line := x } := rfl

/-- A tick at the phase's level is a counted sample. -/
theorem tickEvent_dwell {s : State} {w : Phase} (hop : s.op = 1#4 ∨ s.op = 2#4) (hf : s.fsm = .wait w)
    (hl : s.line = level w) : tickEvent (level w) s = .next (dwell w s) := by
  have hs : { s with line := level w } = s := by rw [← hl]
  obtain hop | hop := hop
  · rw [tickEvent_readFrame hop, hs]; exact exec_line_dwell (.inl rfl) hf hl
  · rw [tickEvent_readBit hop, hs]; exact exec_line_dwell (.inr rfl) hf hl

/-- Samples at the phase's level that do not pass its limit are counted, and nothing else changes. -/
theorem runTicks_dwell {w : Phase} {s : State} {k : Nat} (hop : s.op = 1#4 ∨ s.op = 2#4) (hf : s.fsm = .wait w)
    (hl : s.line = level w) (hk : s.pcnt.toNat + k ≤ (limit w s).toNat) :
    runTicks (List.replicate k (level w)) s = .next { s with pcnt := s.pcnt + BitVec.ofNat 9 k } := by
  induction k generalizing s with
  | zero => simp
  | succ k ih =>
    have hlim : limit w { s with pcnt := s.pcnt + 1#9 } = limit w s := limit_congr w rfl rfl rfl rfl rfl
    have hs : (s.pcnt + 1#9).toNat = s.pcnt.toNat + 1 := pcnt_succ_toNat (l := limit w s) (by omega)
    have ht : tickEvent (level w) s = .next { s with pcnt := s.pcnt + 1#9 } := by
      rw [tickEvent_dwell hop hf hl, dwell_within (by omega)]
    rw [List.replicate_succ, runTicks_cons ht,
      ih (s := { s with pcnt := s.pcnt + 1#9 }) hop hf hl (by simp only [hlim, hs]; omega),
      Nat.add_comm k, BitVec.ofNat_add, BitVec.add_assoc]

/-- Settles O31: up to the limit the samples are counted, and the next one passes it. -/
theorem phaseLastsAtMostItsLimit : Obligations.PhaseLastsAtMostItsLimit := by
  intro s w k hop hf h0
  have hlim {p : BitVec 9} : limit w { s with pcnt := p, line := level w } = limit w s :=
    limit_congr w rfl rfl rfl rfl rfl
  have hline (j : Nat) : runTicks (List.replicate (j + 1) (level w)) s
      = runTicks (List.replicate (j + 1) (level w)) { s with line := level w } :=
    runTicks_cons_line (level w) (List.replicate j (level w)) s
  have within {j : Nat} (hj : j ≤ (limit w s).toNat) : runTicks (List.replicate j (level w)) { s with line := level w }
      = .next { s with pcnt := BitVec.ofNat 9 j, line := level w } := by
    rw [runTicks_dwell (s := { s with line := level w }) hop hf rfl]
    · simp [h0]
    · simpa [h0, ← hlim (p := s.pcnt)] using hj
  refine ⟨fun h1 hk => ?_, fun hk => ?_⟩
  · obtain ⟨j, rfl⟩ := Nat.exists_eq_add_of_le' h1
    rw [hline, within hk]
  · have hpast : (limit w s).toNat < (BitVec.ofNat 9 (limit w s).toNat + 1#9).toNat := by bv_omega
    rw [hk, hline, List.replicate_succ', runTicks_append (within le_rfl)]
    refine runTicks_cons ((tickEvent_dwell (by exact hop) (by exact hf) rfl).trans (congrArg _ ?_))
    rw [dwell_past (by rw [hlim]; exact hpast), BitVec.ofNat_add]
    rfl

/-- A phase entered by its first sample goes on through `k` samples while `k` is at most its limit. -/
theorem runTicks_enter {w : Phase} {s u : State} {k : Nat} (hfirst : tickEvent (level w) s = .next (enterPhase w u))
    (hop : u.op = 1#4 ∨ u.op = 2#4) (hl : u.line = level w) (h0 : u.pcnt = 0#9) (h1 : 1 ≤ k)
    (hk : k ≤ (limit w u).toNat) :
    runTicks (List.replicate k (level w)) s = .next { u with fsm := .wait w, pcnt := BitVec.ofNat 9 k } := by
  obtain ⟨j, rfl⟩ := Nat.exists_eq_add_of_le' h1
  have hlim : limit w { u with fsm := .wait w, pcnt := 1#9 } = limit w u := limit_congr w rfl rfl rfl rfl rfl
  rw [enterPhase_fits h0 (by omega)] at hfirst
  rw [List.replicate_succ, runTicks_cons hfirst,
    runTicks_dwell (s := { u with fsm := .wait w, pcnt := 1#9 }) hop rfl hl (by rw [hlim]; simp; omega),
    Nat.add_comm j, BitVec.ofNat_add]

/-! ### The pulse of a data bit (40_line_commands.md R77) -/

/-- A high sample in the low phase enters the high phase, its count kept. -/
theorem tickEvent_lowEnds {s : State} (hop : s.op = 1#4 ∨ s.op = 2#4) (hf : s.fsm = .wait .bitLow) :
    tickEvent true s
      = .next (enterPhase .bitHigh { s with line := true, pcnt := 0#9, lowcnt := s.pcnt.setWidth 8 }) := by
  obtain hop | hop := hop
  · rw [tickEvent_readFrame hop]; exact exec_line_lowEnds (.inl rfl) hf rfl
  · rw [tickEvent_readBit hop]; exact exec_line_lowEnds (.inr rfl) hf rfl

/-- A pulse within the limits, its first low sample entering the low phase, leaves the command in the high phase with
both counts. -/
theorem runTicks_pulse {s u : State} {l h : Nat} (hfirst : tickEvent false s = .next (enterPhase .bitLow u))
    (hop : u.op = 1#4 ∨ u.op = 2#4) (hl : u.line = false) (h0 : u.pcnt = 0#9) (hl1 : 1 ≤ l)
    (hlm : l ≤ u.tBitLowMax.toNat) (hh1 : 1 ≤ h) (hhm : h ≤ u.tBitHighMax.toNat) :
    runTicks (pulse (l, h)) s
      = .next
          { u with
            line := true, fsm := .wait .bitHigh, pcnt := BitVec.ofNat 9 h, lowcnt := BitVec.ofNat 8 l } := by
  have hlow := runTicks_enter (w := .bitLow) hfirst hop hl h0 hl1 hlm
  have hcnt : (BitVec.ofNat 9 l).setWidth 8 = BitVec.ofNat 8 l := by bv_omega
  rw [← hcnt]
  refine (runTicks_append hlow).trans ?_
  exact runTicks_enter (w := .bitHigh) (tickEvent_lowEnds (by exact hop) (by rfl)) hop rfl rfl hh1 hhm

/-! ### READ_BIT decodes a pulse (40_line_commands.md R78) -/

/-- The ACCEPT tick of READ_BIT enters the phase of its sample's level. -/
theorem tickEvent_readBit_accept {s : State} (hf : s.fsm = .accept) (hop : s.op = 2#4) (he : s.en = true)
    (hr : s.rsvd = false) (x : Level) :
    tickEvent x s
      = .next (enterPhase (if x then .bitHigh else .bitLow) { s with line := x, pcnt := 0#9, lowcnt := 0#8 }) := by
  rw [tickEvent_readBit hop]
  exact exec_readBit_accept (s := { s with line := x }) hf he hr

/-- From its ACCEPT tick on, READ_BIT counts the low and the high samples of a pulse; `l = 0` is a line already high. -/
theorem runTicks_readBit_pulse {s : State} {l h : Nat} (hf : s.fsm = .accept) (hop : s.op = 2#4) (he : s.en = true)
    (hr : s.rsvd = false) (hl : l ≤ s.tBitLowMax.toNat) (hh1 : 1 ≤ h) (hh : h ≤ s.tBitHighMax.toNat) :
    runTicks (pulse (l, h)) s
      = .next
          { s with
            line := true, fsm := .wait .bitHigh, pcnt := BitVec.ofNat 9 h, lowcnt := BitVec.ofNat 8 l } := by
  have haccept := tickEvent_readBit_accept hf hop he hr
  obtain rfl | hl1 := Nat.eq_zero_or_pos l
  · exact runTicks_enter (w := .bitHigh) (haccept true) (.inr hop) rfl rfl hh1 hh
  · exact runTicks_pulse (u := { s with line := false, pcnt := 0#9, lowcnt := 0#8 }) (haccept false) (.inr hop) rfl rfl
      hl1 hl hh1 hh

/-- A high count within its 8-bit limit is decoded by its number (40_line_commands.md R77). -/
theorem bitValue_ofNat {h : Nat} {s : State} (hh : h ≤ s.tBitHighMax.toNat) :
    bitValue (BitVec.ofNat 9 h) s = decide (s.tOne.toNat < h) := by
  have hn : (BitVec.ofNat 9 h).toNat = h := by bv_omega
  rw [bitValue, hn]

/-- Settles O34: the pulse is counted, and the low sample after it stores the bit. -/
theorem readBitDecodesEveryAcceptedPulse : Obligations.ReadBitDecodesEveryAcceptedPulse := by
  intro s l h hf hop he hr hl hh1 hh
  have hp := runTicks_readBit_pulse hf hop he hr hl hh1 hh
  refine ⟨⟨_, hp, rfl⟩, ?_⟩
  have hcnt : (BitVec.ofNat 9 h).setWidth 8 = BitVec.ofNat 8 h := by bv_omega
  rw [runTicks_append hp, ← bitValue_ofNat hh, ← hcnt]
  exact runTicks_cons ((tickEvent_readBit (by exact hop)).trans (exec_readBit_highEnds (by rfl) (by rfl)))

end Sys2Proof.Machine
end

section
/-! READ_FRAME over a whole waveform: the start pulse, the handshake, 40 bits and the end of the frame
(40_line_commands.md R80 to R88, 20_memory.md R51). -/

namespace Sys2Proof.Machine

/-! ### The handshake (40_line_commands.md R80 to R84) -/

/-- From its ACCEPT tick with the line high, READ_FRAME comes through the start pulse to the release wait. -/
theorem runTicks_toRelease {s : State} {start : List Level} (hf : s.fsm = .accept) (hop : s.op = 1#4)
    (he : s.en = true) (hr : s.rsvd = false) (hlen : start.length = s.startLowMs.toNat * 1000) :
    ∃ r, runTicks (true :: start) s = .next r ∧ r.fsm = .wait .waitRelease ∧ r.pcnt = 0#9 ∧ r.bitcnt = s.bitcnt
      ∧ Advances { s with line := r.line } r := by
  by_cases h0 : s.startLowMs = 0#8
  · obtain rfl : start = [] := List.length_eq_zero_iff.1 (by simp [hlen, h0])
    have ht := (exec_readFrame_accept (s := { s with line := true }) hf he hr).trans (readFrameAccept_noPulse rfl h0)
    exact ⟨_, runTicks_cons ((tickEvent_readFrame hop).trans ht), rfl, rfl, rfl, rfl⟩
  · have ht := exec_readFrame_accept_pulse (s := { s with line := true }) hf he hr rfl h0
    rw [runTicks_cons ((tickEvent_readFrame hop).trans ht)]
    obtain rfl | ⟨xs, x, rfl⟩ := start.eq_nil_or_concat'
    · exact absurd (BitVec.eq_of_toNat_eq (by simp at hlen ⊢; omega)) h0
    · refine ⟨_, runTicks_start_last (by exact hop) (by rfl) xs x ?_, rfl, rfl, rfl, rfl⟩
      simpa [startTicks, Config.ticksPerMs] using hlen

/-- The first sample of the next handshake phase ends this one. -/
theorem tickEvent_handshake {w n : Phase} {s : State} (hn : afterHandshake w = some n) (hop : s.op = 1#4)
    (hf : s.fsm = .wait w) :
    tickEvent (level n) s = .next (enterPhase n { s with line := level n, pcnt := 0#9 }) := by
  have hl : level n ≠ level w := by cases w <;> cases hn <;> decide
  rw [tickEvent_readFrame hop]
  exact exec_readFrame_handshake (s := { s with line := level n }) hn hf hl

/-- A run of samples at the next handshake phase's level, within its limit. -/
theorem runTicks_handshake {w n : Phase} {s : State} {k : Nat} (hn : afterHandshake w = some n) (hop : s.op = 1#4)
    (hf : s.fsm = .wait w) (h1 : 1 ≤ k) (hk : k ≤ (limit n s).toNat) :
    runTicks (List.replicate k (level n)) s
      = .next { s with line := level n, fsm := .wait n, pcnt := BitVec.ofNat 9 k } := by
  have hlim : limit n { s with line := level n, pcnt := 0#9 } = limit n s := limit_congr n rfl rfl rfl rfl rfl
  exact runTicks_enter (u := { s with line := level n, pcnt := 0#9 }) (tickEvent_handshake hn hop hf) (.inl hop) rfl rfl
    h1 (by rw [hlim]; exact hk)

/-- High samples of the release wait, within its limit; there may be none. -/
theorem runTicks_release {s : State} {k : Nat} (hop : s.op = 1#4) (hf : s.fsm = .wait .waitRelease)
    (h0 : s.pcnt = 0#9) (hk : k ≤ s.tReleaseMax.toNat) :
    ∃ l, runTicks (List.replicate k true) s = .next { s with line := l, pcnt := BitVec.ofNat 9 k } := by
  obtain rfl | h1 := Nat.eq_zero_or_pos k
  · exact ⟨s.line, by simp [← h0]⟩
  · obtain ⟨hrun, -⟩ := phaseLastsAtMostItsLimit s .waitRelease k (.inl hop) hf h0
    exact ⟨true, hrun h1 hk⟩

/-- The sensor's response, one low and one high phase within the limits, ends in the high phase. -/
theorem runTicks_response {s : State} {lo hi : Nat} (hop : s.op = 1#4) (hf : s.fsm = .wait .waitRelease)
    (hlo1 : 1 ≤ lo) (hlo : lo ≤ s.tRespLowMax.toNat) (hhi1 : 1 ≤ hi) (hhi : hi ≤ s.tRespHighMax.toNat) :
    runTicks (pulse (lo, hi)) s
      = .next { s with line := true, fsm := .wait .respHigh, pcnt := BitVec.ofNat 9 hi } := by
  have hlow := runTicks_handshake (n := .respLow) rfl hop hf hlo1 hlo
  refine (runTicks_append hlow).trans ?_
  exact runTicks_handshake (w := .respLow) (n := .respHigh) rfl (by exact hop) (by rfl) hhi1 hhi

/-- A low sample after `t` is the first of a data bit, which begins from `u`. -/
structure AwaitsBit (u t : State) : Prop where
  op : u.op = 1#4
  enters : tickEvent false t = .next (enterPhase .bitLow { u with line := false, pcnt := 0#9 })

/-- From its ACCEPT tick, READ_FRAME comes through a handshake within the limits to the first data bit. -/
theorem runTicks_toBits {s : State} {start : List Level} {rel lo hi : Nat} (hf : s.fsm = .accept) (hop : s.op = 1#4)
    (he : s.en = true) (hr : s.rsvd = false) (hlen : start.length = s.startLowMs.toNat * 1000)
    (hrel : rel ≤ s.tReleaseMax.toNat) (hlo1 : 1 ≤ lo) (hlo : lo ≤ s.tRespLowMax.toNat) (hhi1 : 1 ≤ hi)
    (hhi : hi ≤ s.tRespHighMax.toNat) :
    ∃ t, runTicks (true :: start ++ List.replicate rel true ++ pulse (lo, hi)) s = .next t ∧ AwaitsBit t t
      ∧ t.bitcnt = s.bitcnt ∧ Advances { s with line := true } t := by
  obtain ⟨r, hrun, hfr, hpr, hbr, har⟩ := runTicks_toRelease hf hop he hr hlen
  obtain ⟨-, hopr, -⟩ := har.latches
  obtain ⟨-, -, -, -, -, -, hmr, hml, hmh⟩ := har.sameConfig
  have hopr : r.op = 1#4 := hopr.trans hop
  obtain ⟨l, hrelease⟩ := runTicks_release hopr hfr hpr (hmr ▸ hrel)
  have hresp := runTicks_response (s := { r with line := l, pcnt := BitVec.ofNat 9 rel }) hopr hfr hlo1
    (hml ▸ hlo) hhi1 (hmh ▸ hhi)
  refine ⟨{ r with line := true, fsm := .wait .respHigh, pcnt := BitVec.ofNat 9 hi }, ?_, ⟨hopr, ?_⟩, hbr, ?_⟩
  · rw [List.append_assoc, runTicks_append hrun, runTicks_append hrelease]
    exact hresp
  · exact tickEvent_handshake (w := .respHigh) (n := .bitLow) rfl hopr rfl
  · exact congrArg (fun t : State => { t with line := true, fsm := .wait .respHigh, pcnt := BitVec.ofNat 9 hi }) har

theorem sameConfig_trans {s t u : State} (h : sameConfig s t) (h' : sameConfig t u) : sameConfig s u := by
  obtain ⟨h1, h2, h3, h4, h5, h6, h7, h8, h9⟩ := h
  obtain ⟨h1', h2', h3', h4', h5', h6', h7', h8', h9'⟩ := h'
  exact ⟨h1'.trans h1, h2'.trans h2, h3'.trans h3, h4'.trans h4, h5'.trans h5, h6'.trans h6, h7'.trans h7, h8'.trans h8,
    h9'.trans h9⟩

/-- The sample of a tick is apart from what the tick advances. -/
theorem Advances.setLine {s t : State} (h : Advances s t) (l : Level) :
    Advances { s with line := l } { t with line := l } := by
  unfold Advances
  rw [h]

/-! ### The data bits (40_line_commands.md R85) -/

/-- The state with these bits shifted in, the first one first. -/
def collect (bits : List Bool) (s : State) : State := bits.foldl (fun t b => shiftIn b t) s

theorem collect_advances (bits : List Bool) (s : State) : Advances s (collect bits s) := by
  induction bits generalizing s with
  | nil => rfl
  | cons b bits ih => exact Advances.trans (t := shiftIn b s) rfl (ih _)

theorem collect_bitcnt (bits : List Bool) (s : State) :
    (collect bits s).bitcnt = s.bitcnt + BitVec.ofNat 6 bits.length := by
  induction bits generalizing s with
  | nil => simp [collect]
  | cons b bits ih =>
    rw [List.length_cons, Nat.add_comm, BitVec.ofNat_add, ← BitVec.add_assoc]
    exact ih (shiftIn b s)

/-- The two counts of a data bit are within the limits. -/
def Accepted (s : State) (p : Nat × Nat) : Prop :=
  1 ≤ p.1 ∧ p.1 ≤ s.tBitLowMax.toNat ∧ 1 ≤ p.2 ∧ p.2 ≤ s.tBitHighMax.toNat

/-- The bit that a pulse decodes to (40_line_commands.md R77). -/
def decodedBit (s : State) (p : Nat × Nat) : Bool := decide (s.tOne.toNat < p.2)

/-- READ_FRAME in the high phase of the bit that began from `u`, after the pulse `p`. -/
def inHighPhase (u : State) (p : Nat × Nat) : State :=
  { u with line := true, fsm := .wait .bitHigh, pcnt := BitVec.ofNat 9 p.2, lowcnt := BitVec.ofNat 8 p.1 }

/-- An accepted pulse leaves READ_FRAME in the bit's high phase. -/
theorem AwaitsBit.pulse_counted {u t : State} (h : AwaitsBit u t) {p : Nat × Nat} (hp : Accepted u p) :
    runTicks (pulse p) t = .next (inHighPhase u p) := by
  obtain ⟨hl1, hl, hh1, hh⟩ := hp
  exact runTicks_pulse (u := { u with line := false, pcnt := 0#9 }) h.enters (.inl h.op) rfl rfl hl1 hl hh1 hh

/-- The low sample that ends a pulse before the 40th shifts its bit in, and the next bit begins. -/
theorem AwaitsBit.next {u t : State} (h : AwaitsBit u t) {p : Nat × Nat} (hp : Accepted u p)
    (hb : u.bitcnt.toNat < 39) :
    AwaitsBit (shiftIn (decodedBit u p) { u with lowcnt := BitVec.ofNat 8 p.1 }) (inHighPhase u p) := by
  obtain ⟨-, -, -, hh⟩ := hp
  have hmore : (u.bitcnt + 1#6).toNat ≠ Config.frameBits := by rw [Config.frameBits]; bv_omega
  refine ⟨h.op, ?_⟩
  rw [tickEvent_readFrame (by exact h.op), decodedBit, ← bitValue_ofNat hh]
  exact exec_readFrame_bitEnds (by rfl) (by rfl) hmore

/-- Accepted pulses, up to the 39th, are shifted in one after the other; of their low counts only the last is kept. -/
theorem AwaitsBit.runTicks_pulses {u t : State} (h : AwaitsBit u t) {ps : List (Nat × Nat)}
    (hp : ∀ p ∈ ps, Accepted u p) (hb : u.bitcnt.toNat + ps.length < 40) :
    ∃ t' c, runTicks (ps.flatMap pulse) t = .next t'
      ∧ AwaitsBit (collect (ps.map (decodedBit u)) { u with lowcnt := c }) t' := by
  induction ps generalizing u t with
  | nil => exact ⟨t, u.lowcnt, rfl, h⟩
  | cons p ps ih =>
    have hcnt : (u.bitcnt + 1#6).toNat = u.bitcnt.toNat + 1 := by rw [List.length_cons] at hb; bv_omega
    obtain ⟨t', c, hrun, hnext⟩ := ih (h.next (hp p List.mem_cons_self) (by rw [List.length_cons] at hb; omega))
      (fun q hq => hp q (List.mem_cons_of_mem p hq))
      (by rw [List.length_cons] at hb; simp only [shiftIn_bitcnt, hcnt]; omega)
    refine ⟨t', c, ?_, hnext⟩
    rw [List.flatMap_cons, runTicks_append (h.pulse_counted (hp p List.mem_cons_self))]
    exact hrun

/-- The low sample that ends the 40th pulse shifts its bit in and ends the frame. -/
theorem AwaitsBit.last {u t : State} (h : AwaitsBit u t) {p : Nat × Nat} (hp : Accepted u p)
    (hb : u.bitcnt = 39#6) :
    tickEvent false (inHighPhase u p)
      = .next (frameDone (shiftIn (decodedBit u p)
          { u with line := false, fsm := .wait .bitHigh, pcnt := 0#9, lowcnt := BitVec.ofNat 8 p.1 })) := by
  obtain ⟨-, -, -, hh⟩ := hp
  rw [tickEvent_readFrame (by exact h.op), decodedBit, ← bitValue_ofNat hh]
  exact exec_readFrame_frameEnds (by rfl) (by rfl) (by simp [inHighPhase, hb, Config.frameBits])

/-! ### The end of the frame (40_line_commands.md R86 to R88) -/

/-- What the end of a frame does, by its five bytes. -/
theorem frameDone_spec (s : State) :
    Finished (frameDone s) ∧ (frameDone s).driveLow = false ∧ (frameDone s).bitcnt = s.bitcnt
      ∧ (frameDone s).rej = s.rej ∧ (frameDone s).stage = s.stage ∧ (frameDone s).bitres = s.bitres
      ∧ sameConfig s (frameDone s)
      ∧ (shiftByte s.shift 4 = shiftSum s.shift →
          (frameDone s).err = .ok ∧ (frameDone s).frame = frameOfShift s.shift s.frame
            ∧ (frameDone s).calcValue = (shiftByte s.shift 4).setWidth 16
            ∧ (frameDone s).hum = shiftByte s.shift 0 ++ shiftByte s.shift 1
            ∧ (frameDone s).temp = temperatureOf s.signed
              { hHi := shiftByte s.shift 0, hLo := shiftByte s.shift 1, tHi := shiftByte s.shift 2,
                tLo := shiftByte s.shift 3 })
      ∧ (shiftByte s.shift 4 ≠ shiftSum s.shift →
          (frameDone s).err = .invalidChecksum ∧ sameResults s (frameDone s)
            ∧ (frameDone s).calcValue = s.calcValue) := by
  by_cases h : shiftByte s.shift 4 = shiftSum s.shift
  · rw [frameDone_match h, commitFrame_eq]
    exact ⟨finish_finished _ _, rfl, rfl, rfl, rfl, rfl, sameConfig_refl s,
      fun _ => ⟨rfl, rfl, by rw [h]; rfl, rfl, rfl⟩, fun hn => absurd h hn⟩
  · rw [frameDone_mismatch h]
    exact ⟨finish_finished _ _, rfl, rfl, rfl, rfl, rfl, sameConfig_refl s, fun hm => absurd hm h,
      fun _ => ⟨rfl, sameResults_refl s, rfl⟩⟩

/-- From the first data bit on, 40 accepted pulses and a low sample run `FrameDone` on SHIFT with their bits. -/
theorem runTicks_bits {t : State} (h : AwaitsBit t t) (hb : t.bitcnt = 0#6) {ps : List (Nat × Nat)} {p : Nat × Nat}
    (hlen : ps.length = 39) (hacc : ∀ q ∈ ps ++ [p], Accepted t q) :
    ∃ v x u : State, runTicks ((ps ++ [p]).flatMap pulse) t = .next v ∧ v.fsm = .wait .bitHigh
      ∧ tickEvent false v = .next (frameDone x) ∧ x.bitcnt = 40#6 ∧ Advances { t with line := false } x
      ∧ x.shift = (collect ((ps ++ [p]).map (decodedBit t)) u).shift := by
  obtain ⟨t', c, hrun, hnext⟩ := h.runTicks_pulses (fun q hq => hacc q (List.mem_append_left _ hq)) (by simp [hb, hlen])
  have hadv := collect_advances (ps.map (decodedBit t)) { t with lowcnt := c }
  have hcnt : (collect (ps.map (decodedBit t)) { t with lowcnt := c }).bitcnt = 39#6 := by
    rw [collect_bitcnt, List.length_map, hlen, show ({ t with lowcnt := c } : State).bitcnt = 0#6 from hb]; rfl
  have hshift : collect ((ps ++ [p]).map (decodedBit t)) { t with lowcnt := c }
      = shiftIn (decodedBit t p) (collect (ps.map (decodedBit t)) { t with lowcnt := c }) := by
    rw [List.map_append, collect, List.foldl_append]; rfl
  generalize collect (ps.map (decodedBit t)) { t with lowcnt := c } = u at hnext hadv hcnt hshift
  obtain ⟨-, -, hlm, hhm, hone, -⟩ := hadv.sameConfig
  have hp : Accepted u p := by
    rw [Accepted, hlm, hhm]
    exact hacc p (List.mem_append_right _ (List.mem_singleton_self p))
  have hbit : decodedBit u p = decodedBit t p := by rw [decodedBit, hone]; rfl
  refine ⟨_, _, { t with lowcnt := c }, ?_, by rfl, hnext.last hp hcnt, ?_, ?_, ?_⟩
  · rw [List.flatMap_append, runTicks_append hrun, List.flatMap_singleton]
    exact hnext.pulse_counted hp
  · rw [shiftIn_bitcnt, hcnt]; rfl
  · exact congrArg (fun s : State => shiftIn (decodedBit u p)
      { s with line := false, fsm := .wait .bitHigh, pcnt := 0#9, lowcnt := BitVec.ofNat 8 p.1 }) hadv
  · rw [hshift, hbit]; rfl

/-- The five bytes of a frame in SHIFT (40_line_commands.md R86). -/
def frameBytes (sh : BitVec 40) : Vector Byte 5 := Vector.ofFn fun k => shiftByte sh k

/-- Bit `k` of the 40 collected is bit `7 - k % 8` of byte `k / 8` (20_memory.md R51). -/
theorem frameBytes_getLsbD (s : State) (bits : Vector Bool 40) (k : Fin 40) :
    ((frameBytes (collect bits.toList s).shift)[k.val / 8]).getLsbD (7 - k.val % 8) = bits[k] := by
  rw [← frameBitsArriveMostSignificantFirst s bits k, frameOfShift_getElem _ _ (by omega)]
  simp [frameBytes, collect]

/-- Settles O41: the handshake, the 40 bits one after the other, and the end of the frame on their bytes. -/
theorem readFrameDecodesEveryAcceptedWaveform : Obligations.ReadFrameDecodesEveryAcceptedWaveform := by
  intro s start rel lo hi bits hf hop he hr hb hlen hrel hlo1 hlo hhi1 hhi hacc
  obtain ⟨t, hrun, haw, htb, hta⟩ := runTicks_toBits hf hop he hr hlen hrel hlo1 hlo hhi1 hhi
  obtain ⟨-, -, hlm, hhm, hone, -⟩ := hta.sameConfig
  obtain ⟨ps, p, hps⟩ : ∃ ps p, bits.toList = ps ++ [p] :=
    (bits.toList.eq_nil_or_concat').resolve_left fun h => by simpa using congrArg List.length h
  have hps39 : ps.length = 39 := by simpa using congrArg List.length hps
  have hall : ∀ q ∈ ps ++ [p], Accepted t q := by
    intro q hq
    rw [← hps, Vector.mem_toList_iff, Vector.mem_iff_getElem] at hq
    obtain ⟨k, hk, rfl⟩ := hq
    rw [Accepted, hlm, hhm]
    exact hacc ⟨k, hk⟩
  obtain ⟨v, x, u, hbits, hv, hend, hxb, hxa, hxs⟩ := runTicks_bits haw (htb.trans hb) hps39 hall
  rw [← hps] at hbits hxs
  have hrunv := (runTicks_append hrun).trans hbits
  have hadv : Advances { s with line := false } x :=
    (hta.setLine false).trans hxa
  obtain ⟨hresf, hresh, hrest, hresb⟩ := hadv.sameResults
  obtain ⟨hrej, -⟩ := hadv.latches
  obtain ⟨hstage, -⟩ := hadv.status
  obtain ⟨⟨hidle, hbusy, hdone⟩, hdrive, hcnt, hrej', hstage', hbitres, hcfg, hok, hbad⟩ := frameDone_spec x
  refine ⟨v, frameDone x, frameBytes x.shift, hrunv, hv, (runTicks_append hrunv).trans (runTicks_cons hend),
    fun k => ?_, hidle, hbusy, hdone, hdrive, hcnt.trans hxb, hrej'.trans hrej, hstage'.trans hstage,
    hbitres.trans hresb, ?_, ?_, ?_⟩
  · have hk := frameBytes_getLsbD u (bits.map (decodedBit t)) k
    rw [Vector.toList_map, ← hxs] at hk
    rw [hk]
    simp [decodedBit, hone]
  · exact sameConfig_trans hadv.sameConfig hcfg
  · intro hsum
    obtain ⟨herr, hframe, hcalc, hhum, htemp⟩ := hok hsum
    obtain ⟨-, hsigned, -⟩ := hadv.sameConfig
    rw [hresf] at hframe
    rw [hsigned] at htemp
    exact ⟨herr, hframe, hcalc, hhum, htemp⟩
  · intro hsum
    obtain ⟨herr, ⟨hf', hh', ht', hb'⟩, hc'⟩ := hbad hsum
    exact ⟨herr, ⟨hf'.trans hresf, hh'.trans hresh, ht'.trans hrest, hb'.trans hresb⟩, hc'.trans hadv.calcValue⟩

end Sys2Proof.Machine
end

section
/-! READ_FRAME finishes within its bound, whatever the samples (40_line_commands.md R90). -/

namespace Sys2Proof.Machine

/-- The most ticks that `k` whole bits and the low sample after the last take. -/
def bitsTicks (k : Nat) (s : State) : Nat := k * (s.tBitLowMax.toNat + s.tBitHighMax.toNat) + 1

/-- How many ticks READ_FRAME takes at most from the beginning of a phase on: the tick that ends a phase is already the
first of the next. -/
def readFrameTicksFrom (w : Phase) (s : State) : Nat :=
  match w with
  | .waitRelease =>
    s.tReleaseMax.toNat + s.tRespLowMax.toNat + s.tRespHighMax.toNat + bitsTicks (40 - s.bitcnt.toNat) s
  | .respLow     => s.tRespLowMax.toNat + s.tRespHighMax.toNat + bitsTicks (40 - s.bitcnt.toNat) s
  | .respHigh    => s.tRespHighMax.toNat + bitsTicks (40 - s.bitcnt.toNat) s
  | .bitLow      => bitsTicks (40 - s.bitcnt.toNat) s
  | .bitHigh     => s.tBitHighMax.toNat + bitsTicks (39 - s.bitcnt.toNat) s

theorem bitsTicks_succ (k : Nat) (s : State) :
    bitsTicks (k + 1) s = s.tBitLowMax.toNat + s.tBitHighMax.toNat + bitsTicks k s := by
  simp only [bitsTicks, Nat.succ_mul]
  omega

/-- The bits still to come while BITCNT is below 40, split at the end of the current low phase. -/
theorem readFrameTicksFrom_bitLow {s : State} (hb : s.bitcnt.toNat < 40) :
    readFrameTicksFrom .bitLow s = s.tBitLowMax.toNat + readFrameTicksFrom .bitHigh s := by
  have h40 : 40 - s.bitcnt.toNat = (39 - s.bitcnt.toNat) + 1 := by omega
  simp only [readFrameTicksFrom, h40, bitsTicks_succ]
  omega

/-- A handshake phase takes its limit, and then what the next one takes. -/
theorem readFrameTicksFrom_handshake {w n : Phase} (hn : afterHandshake w = some n) (s : State) :
    readFrameTicksFrom w s = (limit w s).toNat + readFrameTicksFrom n s := by
  cases w <;> cases hn <;> simp only [readFrameTicksFrom, limit] <;> omega

/-- The bound goes past the phase's own limit. -/
theorem limit_lt_readFrameTicksFrom {s : State} (hb : s.bitcnt.toNat < 40) (w : Phase) :
    (limit w s).toNat < readFrameTicksFrom w s := by
  cases w with
  | bitLow => rw [readFrameTicksFrom_bitLow hb]; simp only [limit, readFrameTicksFrom, bitsTicks]; omega
  | _ => simp only [limit, readFrameTicksFrom, bitsTicks]; omega

/-- A READ_FRAME past its ACCEPT tick that is over, or will be after at most `n` more ticks: what the start pulse or the
phase has counted is taken off the bound. -/
def ReadFrameEndsWithin (n : Nat) (s : State) : Prop :=
  s.op = 1#4 ∧
    (Finished s
      ∨ (s.fsm = .start ∧ s.bitcnt.toNat < 40 ∧ s.scnt.toNat < startTicks s
          ∧ startTicks s + readFrameTicksFrom .waitRelease s ≤ n + s.scnt.toNat)
      ∨ ∃ w, s.fsm = .wait w ∧ s.bitcnt.toNat < 40 ∧ s.pcnt.toNat ≤ (limit w s).toNat
          ∧ readFrameTicksFrom w s ≤ n + s.pcnt.toNat)

/-- Nothing is still going on when no tick is left. -/
theorem ReadFrameEndsWithin.finished {s : State} (h : ReadFrameEndsWithin 0 s) : Finished s := by
  obtain ⟨-, h | ⟨-, -, hc, hn⟩ | ⟨w, -, hb, hp, hn⟩⟩ := h
  · exact h
  · omega
  · have := limit_lt_readFrameTicksFrom hb w
    omega

/-- A counted sample uses one tick of the bound, or ends READ_FRAME. -/
theorem dwell_frameEndsWithin {n : Nat} {s : State} {w : Phase} (hop : s.op = 1#4) (hf : s.fsm = .wait w)
    (hb : s.bitcnt.toNat < 40) (hp : s.pcnt.toNat ≤ (limit w s).toNat)
    (hn : readFrameTicksFrom w s ≤ n + 1 + s.pcnt.toNat) : ReadFrameEndsWithin n (dwell w s) := by
  have hs := pcnt_succ_toNat hp
  obtain ⟨h, e⟩ | ⟨-, e⟩ := dwell_cases w s
  · have hl : readFrameTicksFrom w { s with pcnt := s.pcnt + 1#9 } = readFrameTicksFrom w s := by cases w <;> rfl
    have hm : limit w { s with pcnt := s.pcnt + 1#9 } = limit w s := limit_congr w rfl rfl rfl rfl rfl
    rw [e]
    exact ⟨hop, .inr (.inr ⟨w, hf, hb, by rw [hm]; exact h, by simp only [hl, hs]; omega⟩)⟩
  · rw [e]
    exact ⟨hop, .inl (timeout_finished _ _)⟩

/-- The first sample of a phase is one counted from 0. -/
theorem enterPhase_frameEndsWithin {n : Nat} {s : State} {w : Phase} (hop : s.op = 1#4) (hb : s.bitcnt.toNat < 40)
    (h0 : s.pcnt = 0#9) (hn : readFrameTicksFrom w s ≤ n + 1) : ReadFrameEndsWithin n (enterPhase w s) := by
  have hl : readFrameTicksFrom w { s with fsm := .wait w } = readFrameTicksFrom w s := by cases w <;> rfl
  exact dwell_frameEndsWithin hop rfl hb (by simp [h0]) (by rw [hl]; exact Nat.le_add_right_of_le hn)

/-- A START tick uses one tick of the bound; the last one leaves the whole release wait. -/
theorem startTick_frameEndsWithin {n : Nat} {s : State} (hop : s.op = 1#4) (hf : s.fsm = .start)
    (hb : s.bitcnt.toNat < 40) (hc : s.scnt.toNat < startTicks s)
    (hn : startTicks s + readFrameTicksFrom .waitRelease s ≤ n + 1 + s.scnt.toNat) :
    ReadFrameEndsWithin n (startTick s) := by
  have hs := scnt_succ_toNat hc
  obtain ⟨hne, e⟩ | ⟨heq, e⟩ := startTick_cases s
  · have hlt : (s.scnt + 1#18).toNat < startTicks s := by omega
    have hle : startTicks s + readFrameTicksFrom .waitRelease s ≤ n + (s.scnt + 1#18).toNat := by omega
    rw [e]
    exact ⟨hop, .inr (.inl ⟨hf, hb, hlt, hle⟩)⟩
  · have hle : readFrameTicksFrom .waitRelease s ≤ n := by omega
    rw [e]
    exact ⟨hop, .inr (.inr ⟨.waitRelease, rfl, hb, by simp, hle⟩)⟩

/-- The end of a frame is the end of READ_FRAME. -/
theorem frameDone_frameEndsWithin {n : Nat} {s : State} (hop : s.op = 1#4) : ReadFrameEndsWithin n (frameDone s) := by
  obtain ⟨hfin, -⟩ := frameDone_spec s
  refine ⟨?_, .inl hfin⟩
  by_cases h : shiftByte s.shift 4 = shiftSum s.shift
  · rw [frameDone_match h]; exact hop
  · rw [frameDone_mismatch h]; exact hop

/-- The sample that ends a handshake phase leaves what the next one takes. -/
theorem handshake_frameEndsWithin {n : Nat} {s : State} {w w' : Phase} (hw : afterHandshake w = some w')
    (hop : s.op = 1#4) (hb : s.bitcnt.toNat < 40) (hp : s.pcnt.toNat ≤ (limit w s).toNat)
    (hn : readFrameTicksFrom w s ≤ n + 1 + s.pcnt.toNat) :
    ReadFrameEndsWithin n (enterPhase w' { s with pcnt := 0#9 }) := by
  have hl : readFrameTicksFrom w' { s with pcnt := 0#9 } = readFrameTicksFrom w' s := by cases w' <;> rfl
  have hs := readFrameTicksFrom_handshake hw s
  exact enterPhase_frameEndsWithin hop hb rfl (by omega)

/-- So does the high sample that ends a low phase. -/
theorem lowEnds_frameEndsWithin {n : Nat} {s : State} (hop : s.op = 1#4) (hb : s.bitcnt.toNat < 40)
    (hp : s.pcnt.toNat ≤ s.tBitLowMax.toNat) (hn : readFrameTicksFrom .bitLow s ≤ n + 1 + s.pcnt.toNat) :
    ReadFrameEndsWithin n (enterPhase .bitHigh { s with pcnt := 0#9, lowcnt := s.pcnt.setWidth 8 }) := by
  have hs := readFrameTicksFrom_bitLow hb
  have hle : readFrameTicksFrom .bitHigh s ≤ n + 1 := by omega
  exact enterPhase_frameEndsWithin hop hb rfl hle

/-- The low sample that ends a bit ends the frame, or enters the next bit with one bit less to come. -/
theorem bitEnds_frameEndsWithin {n : Nat} {s : State} (hop : s.op = 1#4) (hf : s.fsm = .wait .bitHigh)
    (hl : s.line = false) (hb : s.bitcnt.toNat < 40) (hp : s.pcnt.toNat ≤ s.tBitHighMax.toNat)
    (hn : readFrameTicksFrom .bitHigh s ≤ n + 1 + s.pcnt.toNat) :
    ∃ t, exec .readFrame s = .next t ∧ ReadFrameEndsWithin n t := by
  have hc : (s.bitcnt + 1#6).toNat = s.bitcnt.toNat + 1 := by bv_omega
  by_cases hlast : (s.bitcnt + 1#6).toNat = Config.frameBits
  · exact ⟨_, exec_readFrame_frameEnds hf hl hlast, frameDone_frameEndsWithin hop⟩
  · refine ⟨_, exec_readFrame_bitEnds hf hl hlast, enterPhase_frameEndsWithin hop ?_ rfl ?_⟩
    · rw [Config.frameBits] at hlast
      simp only [shiftIn_bitcnt]
      omega
    · have h39 : 40 - (s.bitcnt + 1#6).toNat = 39 - s.bitcnt.toNat := by omega
      have hnext : readFrameTicksFrom .bitLow (shiftIn (bitValue s.pcnt s) { s with pcnt := 0#9 })
          = bitsTicks (39 - s.bitcnt.toNat) s := by rw [← h39]; rfl
      rw [hnext]
      simp only [readFrameTicksFrom] at hn
      omega

/-- Every tick of READ_FRAME past ACCEPT uses one tick of the bound, whatever its sample. -/
theorem ReadFrameEndsWithin.tick {n : Nat} {s : State} (h : ReadFrameEndsWithin (n + 1) s) (x : Level) :
    ∃ t, tickEvent x s = .next t ∧ ReadFrameEndsWithin n t := by
  obtain ⟨hop, ⟨hf, hbusy, hd⟩ | ⟨hf, hb, hc, hn⟩ | ⟨w, hf, hb, hp, hn⟩⟩ := h
  · exact ⟨_, tickEvent_idle hf, hop, .inl ⟨hf, hbusy, hd⟩⟩
  · rw [tickEvent_readFrame hop]
    exact ⟨_, fsmTick_start (s := { s with line := x }) hf, startTick_frameEndsWithin hop hf hb hc hn⟩
  rw [tickEvent_readFrame hop]
  by_cases hl : x = level w
  · exact ⟨_, exec_line_dwell (.inl rfl) (s := { s with line := x }) hf hl, dwell_frameEndsWithin hop hf hb hp hn⟩
  cases hnext : afterHandshake w with
  | some w' =>
    exact ⟨_, exec_readFrame_handshake hnext (s := { s with line := x }) hf hl,
      handshake_frameEndsWithin (s := { s with line := x }) hnext hop hb hp hn⟩
  | none =>
    obtain rfl | rfl : w = .bitLow ∨ w = .bitHigh := by cases w <;> simp [afterHandshake] at hnext ⊢
    · exact ⟨_, exec_line_lowEnds (.inl rfl) (s := { s with line := x }) hf (by simpa [level] using hl),
        lowEnds_frameEndsWithin (s := { s with line := x }) hop hb hp hn⟩
    · exact bitEnds_frameEndsWithin (s := { s with line := x }) hop hf (by simpa [level] using hl) hb hp hn

/-- The ACCEPT tick of READ_FRAME uses the first tick of the bound of R90. -/
theorem readFrame_accept_endsWithin {n : Nat} {s : State} (hf : s.fsm = .accept) (hop : s.op = 1#4) (he : s.en = true)
    (hr : s.rsvd = false) (hb : s.bitcnt = 0#6) (hn : readFrameBound s = n + 1) (x : Level) :
    ∃ t, tickEvent x s = .next t ∧ ReadFrameEndsWithin n t := by
  have hlt : s.bitcnt.toNat < 40 := by simp [hb]
  have hbound : startTicks s + readFrameTicksFrom .waitRelease s = n := by
    simp only [readFrameBound] at hn
    simp only [readFrameTicksFrom, bitsTicks, hb, BitVec.toNat_ofNat, Nat.zero_mod, Nat.sub_zero]
    omega
  rw [tickEvent_readFrame hop]
  cases x with
  | false =>
    exact ⟨_, (exec_readFrame_accept (s := { s with line := false }) hf he hr).trans (readFrameAccept_low rfl), hop,
      .inl (finish_finished _ _)⟩
  | true =>
    by_cases h0 : s.startLowMs = 0#8
    · have hle : readFrameTicksFrom .waitRelease s ≤ n + 0 := by omega
      exact ⟨_, (exec_readFrame_accept (s := { s with line := true }) hf he hr).trans (readFrameAccept_noPulse rfl h0),
        hop, .inr (.inr ⟨.waitRelease, rfl, hlt, Nat.zero_le _, hle⟩)⟩
    · have hpos : 0 < startTicks s := Nat.mul_pos (by bv_omega) (by decide)
      exact ⟨_, exec_readFrame_accept_pulse (s := { s with line := true }) hf he hr rfl h0, hop,
        .inr (.inl ⟨rfl, hlt, hpos, Nat.le_of_eq hbound⟩)⟩

/-- Settles O42: every tick uses one of the ticks that R90 gives. -/
theorem readFrameFinishesWithinItsBound : Obligations.ReadFrameFinishesWithinItsBound := by
  refine ⟨fun s xs hf hop he hr hb hlen => ?_, by decide⟩
  cases xs with
  | nil => simp [readFrameBound] at hlen
  | cons x xs =>
    obtain ⟨t, ht, hn⟩ := readFrame_accept_endsWithin hf hop he hr hb hlen.symm x
    obtain ⟨u, hu, h0⟩ := runTicks_countdown ReadFrameEndsWithin.tick hn
    exact ⟨u, (runTicks_cons ht).trans hu, h0.finished⟩

end Sys2Proof.Machine
end

section
/-! The decoder, the steps over listed events, and what a host reads back (20_memory.md R47 to R55, 30_encoding.md). -/

namespace Sys2Proof.Machine

/-! ### The decoder over all words (30_encoding.md R60 to R63) -/

theorem decode_eq_reservedBits_iff (w : Word) : decode w = .error .reservedBits ↔ 16 ≤ w.toNat := by
  rw [← reservedBits_iff, decode]
  split
  · next h => simp [h]
  · next h => split <;> simp [h]

theorem decode_eq_ok_iff (w : Word) (i : Instr) :
    decode w = .ok i ↔ w.toNat < 16 ∧ commandOf (opOf w) = some i := by
  rw [← not_le, ← reservedBits_iff, decode]
  split
  · next h => simp [h]
  · next h => split <;> next hc => simp [h, hc]

theorem decode_eq_reservedOp_iff (w : Word) (op : BitVec 4) :
    decode w = .error (.reservedOp op) ↔ w.toNat < 16 ∧ commandOf (opOf w) = none ∧ opOf w = op := by
  rw [← not_le, ← reservedBits_iff, decode]
  split
  · next h => simp [h]
  · next h => split <;> next hc => simp [h, hc]

/-- A command's word is its opcode, with ZERO = 0 (30_encoding.md R60). -/
theorem encode_toNat (i : Instr) : (encode i).toNat = (opcode i).toNat := zero_append_toNat (opcode i)

/-- A word without reserved bits is its OP (30_encoding.md R60). -/
theorem eq_opOf_iff (w : Word) (op : BitVec 4) : (w.toNat < 16 ∧ opOf w = op) ↔ w.toNat = op.toNat := by
  rw [← BitVec.toNat_inj, opOf_toNat]
  have := op.isLt
  omega

/-- Settles O2: the three outcomes of the decoder, each by the word's number. -/
theorem decodeReadsExactlyTheEncodings : Obligations.DecodeReadsExactlyTheEncodings := by
  refine ⟨fun w i => ?_, decode_eq_reservedBits_iff, fun w op => ?_⟩
  · rw [decode_eq_ok_iff, commandOf_eq_some, eq_opOf_iff, ← BitVec.toNat_inj, encode_toNat]
  · rw [decode_eq_reservedOp_iff, ← eq_opOf_iff, ← commandOf_eq_none]
    refine ⟨fun ⟨h, hc, ho⟩ => ⟨⟨h, ho⟩, ho ▸ hc⟩, fun ⟨⟨h, ho⟩, hc⟩ => ⟨h, ho ▸ hc, ho⟩⟩

/-- Settles O1: the words of the opcode map and five others, each decoded. -/
theorem opcodeMapWordsDecode : Obligations.OpcodeMapWordsDecode :=
  ⟨rfl, rfl, rfl, rfl, rfl, rfl, rfl, rfl, rfl⟩

/-! ### Steps over listed events (20_memory.md R55, 40_line_commands.md R72) -/

/-- A step on a listed tick is one tick of the latched command. -/
theorem step_tick_command {s : State} {x : Level} {rest : List Event} {i : Instr} (h : s.inputs = .tick x :: rest)
    (hc : commandOf s.op = some i) : step s = exec i { s with line := x, inputs := rest } := by
  rw [step_listed h]
  exact tickEvent_command (s := { s with inputs := rest }) hc

/-- `withFetchWord` accepts the word and lists one tick with the line high (log 13). -/
theorem withFetchWord_word (s : State) (w : Word) :
    s.withFetchWord 32 w.toNat = { acceptWord w s with inputs := .tick true :: s.inputs } := by
  rw [State.withFetchWord, placeCommand, Nat.mod_eq_of_lt w.isLt, BitVec.ofNat_toNat, BitVec.setWidth_eq]
  rfl

/-- Settles O3: acceptance latches the OP, and the next tick is one of the command it names. -/
theorem stepRunsTheDecodedCommand : Obligations.StepRunsTheDecodedCommand := by
  refine ⟨fun s x rest i => step_tick_command, fun s w x rest i hw => ?_, fun s w i hw => ?_⟩
  · obtain ⟨-, hc⟩ := (decode_eq_ok_iff w i).1 hw
    exact step_tick_command rfl hc
  · obtain ⟨-, hc⟩ := (decode_eq_ok_iff w i).1 hw
    rw [withFetchWord_word]
    exact step_tick_command rfl hc

/-- Settles O4: the oldest listed event, else one of the environment. -/
theorem stepAppliesTheNextEvent : Obligations.StepAppliesTheNextEvent :=
  ⟨fun _ _ _ h => step_listed h, fun _ h => ⟨_, step_free h⟩⟩

/-- Settles O22: in IDLE the tick rule does nothing, and the step takes the event and the sample. -/
theorem idleIgnoresTicks : Obligations.IdleIgnoresTicks := by
  refine ⟨fun s i hf => ?_, fun s x rest hf h => ?_⟩
  · cases i <;> exact fsmTick_idle hf
  · rw [step_listed h]
    exact tickEvent_idle (s := { s with inputs := rest }) hf

/-! ### The register map and the window (10_state.md R23, 20_memory.md R54) -/

theorem regOffset_frame_toNat (k : Fin 8) : (regOffset (.frame k)).toNat = 0x20 + 4 * k.val := by
  simp only [regOffset, BitVec.toNat_ofNat]
  omega

/-- Settles O15: the map is one to one, and ends at CALC. -/
theorem registerMap : Obligations.RegisterMap :=
  ⟨regAt_regOffset, rfl, rfl, rfl, rfl, rfl, rfl, rfl, rfl, rfl, regOffset_frame_toNat, fun _ => regAt_unmapped⟩

/-- An address in the window has its distance from the base as its offset (20_memory.md R54). -/
theorem windowOffset_inside (base : Nat) (off : Offset) : windowOffset base (base + off.toNat) = some off := by
  have h : base ≤ base + off.toNat ∧ base + off.toNat < base + Config.windowBytes := by
    simp only [Config.windowBytes]
    omega
  rw [windowOffset, if_pos h, Nat.add_sub_cancel_left, BitVec.ofNat_toNat, BitVec.setWidth_eq]

/-- Settles O18: the platform's read and write of an address in the window. -/
theorem windowSpansBase : Obligations.WindowSpansBase := by
  intro width v off
  simp only [platformRead, platformWrite, windowOffset_inside, Option.map_some, and_self]

/-! ### Codes, tables and the pad (10_state.md R22, R34, R40, R41, 40_line_commands.md R75) -/

/-- Settles O11: every code is the table's. -/
theorem statusCodes : Obligations.StatusCodes :=
  ⟨rfl, rfl, rfl, rfl, rfl, rfl, rfl, rfl, rfl, rfl, rfl, rfl, rfl, rfl, rfl⟩

/-- Settles O20: a read is a function of the fields a host can see. -/
theorem hiddenStateIsNotReadable : Obligations.HiddenStateIsNotReadable :=
  fun _ _ h off => hostRead_congr off h

/-- Settles O59: the pad is the wired and of the two drivers. -/
theorem padLineIsOpenDrain : Obligations.PadLineIsOpenDrain := by
  intro s sensor
  rw [padLevel, Bool.not_eq_false', Bool.or_eq_true]

/-- Settles O26: each phase has the table's level, limit and stage. -/
theorem phaseTable : Obligations.PhaseTable :=
  fun _ => ⟨⟨rfl, rfl, rfl⟩, ⟨rfl, rfl, rfl⟩, ⟨rfl, rfl, rfl⟩, ⟨rfl, rfl, rfl⟩, ⟨rfl, rfl, rfl⟩⟩

/-! ### The pseudo-instructions (30_encoding.md R68) -/

theorem loadFrameEvents_length (k : Nat) (bs : List Byte) : (loadFrameEvents k bs).length = bs.length := by
  induction bs generalizing k with
  | nil => rfl
  | cons b bs ih => rw [loadFrameEvents, List.length_cons, List.length_cons, ih]

/-- Line `j` of LOADFRAME writes byte `j`, four offsets after the one before. -/
theorem loadFrameEvents_getElem? (k j : Nat) (bs : List Byte) (h : j < bs.length) :
    (loadFrameEvents k bs)[j]?
      = some (.hostWrite { width := .word, off := BitVec.ofNat 7 (0x20 + 4 * (k + j)) } (bs[j].setWidth 32)) := by
  induction bs generalizing k j with
  | nil => exact absurd h (Nat.not_lt_zero j)
  | cons b bs ih =>
    cases j with
    | zero => rfl
    | succ j =>
      have hj : j < bs.length := Nat.lt_of_succ_lt_succ h
      rw [loadFrameEvents, List.getElem?_cons_succ, ih (k + 1) j hj, Nat.add_right_comm k 1 j]
      rfl

/-- Settles O21: each expansion, LOADFRAME by its length and each of its writes. -/
theorem pseudoInstructionExpansions : Obligations.PseudoInstructionExpansions := by
  refine ⟨rfl, rfl, rfl, rfl, rfl, rfl, rfl, fun _ => rfl, loadFrameEvents_length 0, fun bs k h _ => ?_⟩
  have hk := loadFrameEvents_getElem? 0 k bs h
  rwa [Nat.zero_add] at hk

/-! ### Registers read back after a write (10_state.md R24, R25, R35, R36, R38) -/

/-- The low `n` bits of a word, as a number. -/
theorem and_lowMask_toNat (v : Word) (n : Nat) (hn : n < 32) :
    (v &&& BitVec.ofNat 32 (2 ^ n - 1)).toNat = v.toNat % 2 ^ n := by
  have hlt : 2 ^ n - 1 < 2 ^ 32 := Nat.lt_of_le_of_lt (Nat.sub_le _ _) (Nat.pow_lt_pow_right (by decide) hn)
  rw [BitVec.toNat_and, BitVec.toNat_ofNat, Nat.mod_eq_of_lt hlt, Nat.and_two_pow_sub_one_eq_mod]

/-- A byte of a word, as a number. -/
theorem byteOf_toNat (v : Word) (k : Nat) : (v.extractLsb' k 8).toNat = v.toNat / 2 ^ k % 256 := by
  rw [BitVec.extractLsb'_toNat, Nat.shiftRight_eq_div_pow]

theorem readReg_writeCtrl (v : Word) (s : State) : readReg .ctrl (writeCtrl v s) = v &&& 0x00000003#32 := by
  apply BitVec.eq_of_toNat_eq
  have hbit (k : Nat) : (v.getLsbD k).toNat = v.toNat / 2 ^ k % 2 := Nat.toNat_testBit _ _
  rw [readReg_ctrl_toNat, show (0x00000003#32) = BitVec.ofNat 32 (2 ^ 2 - 1) from rfl,
    and_lowMask_toNat v 2 (by decide)]
  simp only [writeCtrl, hbit]
  omega

theorem readReg_writeTiming0 (v : Word) (s : State) : readReg .timing0 (writeTiming0 v s) = v := by
  apply BitVec.eq_of_toNat_eq
  rw [readReg_timing0_toNat]
  simp only [writeTiming0, byteOf_toNat]
  omega

theorem readReg_writeTiming1 (v : Word) (s : State) :
    readReg .timing1 (writeTiming1 v s) = v &&& 0x00FFFFFF#32 := by
  apply BitVec.eq_of_toNat_eq
  rw [readReg_timing1_toNat, show (0x00FFFFFF#32) = BitVec.ofNat 32 (2 ^ 24 - 1) from rfl,
    and_lowMask_toNat v 24 (by decide)]
  simp only [writeTiming1, byteOf_toNat]
  omega

theorem readReg_writeFrame (k j : Fin 8) (v : Word) (s : State) :
    readReg (.frame j) (writeFrame k v s) = if j = k then v &&& 0x000000FF#32 else readReg (.frame j) s := by
  split
  · next h =>
    subst h
    apply BitVec.eq_of_toNat_eq
    rw [show (0x000000FF#32) = BitVec.ofNat 32 (2 ^ 8 - 1) from rfl, and_lowMask_toNat v 8 (by decide)]
    exact (zero_append_toNat (writeFrame j v s).frame[j]).trans (by simp [writeFrame])
  · next h =>
    have hne : k.val ≠ j.val := fun e => h (Fin.ext e.symm)
    simp [readReg, writeFrame, hne]

/-- Settles O14: a taken write of each register, read back. -/
theorem readBackMasksReservedBits : Obligations.ReadBackMasksReservedBits := by
  intro s v hb
  have readBack (r q : Reg) {write : State → State} (hw : writeReg r v s = unlessBusy write s) :
      hostRead (regOffset q) (hostWrite (regOffset r) v s) = readReg q (write s) := by
    rw [hostRead_regOffset, hostWrite_regOffset, hw, unlessBusy_taken hb]
  refine ⟨(readBack .ctrl .ctrl rfl).trans (readReg_writeCtrl v s),
    (readBack .timing0 .timing0 rfl).trans (readReg_writeTiming0 v s),
    (readBack .timing1 .timing1 rfl).trans (readReg_writeTiming1 v s), fun k j => ?_⟩
  rw [readBack (.frame k) (.frame j) rfl, readReg_writeFrame, hostRead_regOffset]

end Sys2Proof.Machine
end

section
/-! Sum8 and Crc16 as arithmetic, and the residue of a valid bus frame (41_checksum_commands.md R100 to R102). -/

namespace Sys2Proof.Machine

/-- Settles O45: the low byte of the sum is the sum modulo 256. -/
theorem sum8IsTheSumModulo256 : Obligations.Sum8IsTheSumModulo256 := by
  intro b0 b1 b2 b3
  rw [sum8_eq_ofNat, BitVec.toNat_ofNat]

/-! ### The CRC loop (41_checksum_commands.md R101) -/

/-- A step of the loop by the number of the register. -/
theorem crcStep_eq (c : BitVec 16) :
    crcStep c = if c.toNat % 2 = 1 then BitVec.ofNat 16 (c.toNat / 2) ^^^ 0xA001#16
      else BitVec.ofNat 16 (c.toNat / 2) := by
  have hshift : c >>> 1 = BitVec.ofNat 16 (c.toNat / 2) :=
    BitVec.eq_of_toNat_eq (by simp [Nat.shiftRight_eq_div_pow]; omega)
  have hbit : c.getLsbD 0 = true ↔ c.toNat % 2 = 1 := by simp [BitVec.getLsbD]
  simp only [crcStep, hbit, hshift, Config.crcPoly]

/-- A byte more is one round of eight steps more. -/
theorem crc16_append_byte (m : List Byte) (b : Byte) : crc16 (m ++ [b]) = crcByte (crc16 m) b := by
  rw [crc16, List.foldl_append]; rfl

/-- The check value published for the nine ASCII bytes "123456789" (41_checksum_commands.md R101; log 17). -/
theorem crc16_check_value :
    crc16 [0x31#8, 0x32#8, 0x33#8, 0x34#8, 0x35#8, 0x36#8, 0x37#8, 0x38#8, 0x39#8] = 0x4B37#16 := by
  simp [crc16, crcByte, crcSteps, crcStep, Config.crcInit, Config.crcPoly]

/-- Settles O46: the initial value, a byte's round as the model's eight steps, and the published check value. -/
theorem crc16IsTheReflectedLoop : Obligations.Crc16IsTheReflectedLoop := by
  refine ⟨rfl, fun m b => ?_, crc16_check_value⟩
  rw [crc16_append_byte, ← funext crcStep_eq, BitVec.ofNat_toNat]
  rfl

/-! ### The loop loses nothing, so only a valid frame leaves 0 (41_checksum_commands.md R102) -/

/-- The bit shifted out comes back as bit 15, since the polynomial has that bit. -/
theorem crcStep_msb (c : BitVec 16) : (crcStep c).getLsbD 15 = c.getLsbD 0 := by
  unfold crcStep
  split
  · next h => rw [h, BitVec.getLsbD_xor, BitVec.getLsbD_ushiftRight, BitVec.getLsbD_of_ge _ _ (by decide)]; rfl
  · next h => rw [BitVec.getLsbD_ushiftRight, BitVec.getLsbD_of_ge _ _ (by decide)]; simpa using h

theorem crcStep_injective : Function.Injective crcStep := by
  intro c d h
  have h0 : c.getLsbD 0 = d.getLsbD 0 := by rw [← crcStep_msb, h, crcStep_msb]
  have hshift : c >>> 1 = d >>> 1 := by
    simp only [crcStep, h0] at h
    split at h
    · exact (BitVec.xor_left_inj _).1 h
    · exact h
  apply BitVec.eq_of_getLsbD_eq
  intro i hi
  cases i with
  | zero => exact h0
  | succ i => simpa [Nat.add_comm] using congrArg (·.getLsbD i) hshift

theorem crcSteps_injective (n : Nat) : Function.Injective (crcSteps n) := by
  induction n with
  | zero => exact fun _ _ h => h
  | succ n ih => exact ih.comp crcStep_injective

/-- While only zeros are shifted out, the loop shifts. -/
theorem crcSteps_shiftLeft (n : Nat) (x : BitVec 16) (h : x.toNat * 2 ^ n < 2 ^ 16) : crcSteps n (x <<< n) = x := by
  induction n generalizing x with
  | zero => simp [crcSteps]
  | succ n ih =>
    rw [Nat.pow_succ, ← Nat.mul_assoc] at h
    have hn : (x <<< (n + 1)).toNat = x.toNat * 2 ^ n * 2 := by
      rw [BitVec.toNat_shiftLeft, Nat.shiftLeft_eq, Nat.pow_succ, ← Nat.mul_assoc, Nat.mod_eq_of_lt h]
    have hstep : crcStep (x <<< (n + 1)) = x <<< n := by
      rw [crcStep_eq, hn, if_neg (by omega), Nat.mul_div_cancel _ (by decide)]
      exact BitVec.eq_of_toNat_eq (by rw [BitVec.toNat_shiftLeft, Nat.shiftLeft_eq, BitVec.toNat_ofNat])
    rw [crcSteps, hstep]
    exact ih x (by omega)

/-- Eight steps leave a byte exactly where it stood in the high half. -/
theorem crcSteps_eight_eq_byte_iff (c : BitVec 16) (b : Byte) :
    crcSteps 8 c = b.setWidth 16 ↔ c = b.setWidth 16 <<< 8 := by
  have hb : (b.setWidth 16).toNat * 2 ^ 8 < 2 ^ 16 := by
    rw [BitVec.toNat_setWidth_of_le (by decide)]
    omega
  rw [← (crcSteps_injective 8).eq_iff (a := c), crcSteps_shiftLeft 8 _ hb]

/-- A byte leaves 0 exactly where it is the register. -/
theorem crcByte_eq_zero_iff (c : BitVec 16) (b : Byte) : crcByte c b = 0#16 ↔ c = b.setWidth 16 := by
  have h0 := crcSteps_eight_eq_byte_iff (c ^^^ b.setWidth 16) 0#8
  rw [show (0#8).setWidth 16 <<< 8 = 0#16 from rfl, BitVec.xor_eq_zero_iff] at h0
  exact h0

/-- The two CRC bytes, low one first, leave 0 exactly where they are the register (41_checksum_commands.md R102). -/
theorem crcByte_crcByte_eq_zero_iff (c : BitVec 16) (lo hi : Byte) :
    crcByte (crcByte c lo) hi = 0#16 ↔ c = hi ++ lo := by
  have happ : hi ++ lo = hi.setWidth 16 <<< 8 ^^^ lo.setWidth 16 := by
    ext i hlt
    simp only [BitVec.getElem_append, BitVec.getElem_xor, BitVec.getElem_shiftLeft, BitVec.getElem_setWidth]
    by_cases h : i < 8
    · simp [h]
    · simp [h, BitVec.getLsbD_of_ge lo i (by omega), BitVec.getLsbD_eq_getElem (show i - 8 < 8 by omega)]
  rw [crcByte_eq_zero_iff, crcByte, crcSteps_eight_eq_byte_iff, happ]
  refine ⟨fun h => ?_, fun h => ?_⟩
  · rw [← h, BitVec.xor_assoc, BitVec.xor_self, BitVec.xor_zero]
  · rw [h, BitVec.xor_assoc, BitVec.xor_self, BitVec.xor_zero]

/-- The CRC of a whole bus frame goes on from that of FRAME[0..5] with the two bytes it carries. -/
theorem crc16_toList (f : Vector Byte 8) :
    crc16 f.toList = crcByte (crcByte (crc16 (crcInput f)) f[6]) f[7] := by
  have hl : f.toList = crcInput f ++ [f[6]] ++ [f[7]] := by
    obtain ⟨⟨l⟩, hsize⟩ := f
    match l, hsize with
    | [_, _, _, _, _, _, _, _], _ => rfl
  rw [hl, crc16_append_byte, crc16_append_byte]

/-- Settles O47: the two carried bytes leave 0 exactly where they are the CRC of the bytes before them. -/
theorem busFrameIsValidIffItsCrcIsZero : Obligations.BusFrameIsValidIffItsCrcIsZero := by
  intro f
  rw [crc16_toList, crcByte_crcByte_eq_zero_iff]
  exact (eq_crcField_iff (crc16 (crcInput f)) f).symm

end Sys2Proof.Machine
end
